-- ==== Sys2Proof/Word.lean ====
section
/-! DEFINITION. The word types of the block (spec 00_scope.md R6, R11): all values are unsigned bit vectors. -/

namespace Sys2Proof

/-- A 32-bit register word, address, count operand or callback handle (R6 `REG_W`, `ADDR_W`; D41). -/
abbrev Word := BitVec 32

/-- One byte of system memory (R60). -/
abbrev Byte := BitVec 8

/-- A channel number, 0 to 15 (R1, R6 `N_CH`). -/
abbrev Chan := Fin 16

end Sys2Proof
end

