-- ==== Sys2Proof/Config.lean ====
section
/-! DEFINITION. What an implementation fixes (the open parameters of spec 92_eei_decisions.md but `REG_LAYOUT`, log 35, as one record that the
model takes as an argument) and the free values of the spec (`draw`, 00_scope.md R13), as constants without a body. -/

namespace Sys2Proof

/-- The direction of a peripheral code: RX = peripheral to memory, TX = memory to peripheral (R9, R97). -/
inductive Direction where
  | rx | tx
deriving DecidableEq, Repr

/-- One entry `(name, code, dir)` of `PERIPH_TABLE` (R9). -/
structure Periph where
  name : String
  code : BitVec 8
  dir  : Direction
deriving DecidableEq, Repr

/-- The parameter `CLKOFF_ACCESS` (R121). -/
inductive ClkOffAccess where
  | draw | lands | dropped
deriving DecidableEq, Repr

/-- A range of system memory that the platform's memory port admits for reads, for writes or for both, whatever the size of
the request (R66; log 34, DESIGN CHOICE). -/
structure Region where
  base  : Nat
  size  : Nat
  read  : Bool
  write : Bool
deriving DecidableEq, Repr

/-- The open parameters the model takes as arguments (R7, R9, R121, R66): fixed for one machine, never changed by a step.
`REG_LAYOUT` (R8) is not among them: the model fixes it (log 35, DESIGN CHOICE). -/
structure Params where
  dmaBase   : Word
  stride    : Nat
  periphs   : List Periph
  clkOff    : ClkOffAccess
  regions   : List Region
deriving DecidableEq, Repr

/-- The constraints the spec puts on the parameters: R7 (multiples of 4, stride at least 0x30, no wrap) and R9 (exactly 38
entries, all codes distinct). -/
def Params.wf (P : Params) : Bool :=
  P.dmaBase.toNat % 4 == 0 && P.stride % 4 == 0 && decide (0x30 ≤ P.stride) &&
  decide (P.dmaBase.toNat + 16 * P.stride ≤ 2 ^ 32) &&
  P.periphs.length == 38 && decide (P.periphs.map Periph.code).Nodup

/-- The RX half of the suggested `PERIPH_TABLE` (R96; PRESUMED, log 4). -/
def Config.suggestedRx : List Periph :=
  [⟨"USART0_RX", 0, .rx⟩, ⟨"USART1_RX", 1, .rx⟩, ⟨"USART2_RX", 2, .rx⟩, ⟨"USART3_RX", 3, .rx⟩,
   ⟨"SPI_RX", 4, .rx⟩, ⟨"TWIM0_RX", 5, .rx⟩, ⟨"TWIM1_RX", 6, .rx⟩, ⟨"TWIM2_RX", 7, .rx⟩,
   ⟨"TWIM3_RX", 8, .rx⟩, ⟨"TWIS0_RX", 9, .rx⟩, ⟨"TWIS1_RX", 10, .rx⟩, ⟨"ADCIFE_RX", 11, .rx⟩,
   ⟨"CATB_RX", 12, .rx⟩, ⟨"IISC_CH0_RX", 14, .rx⟩, ⟨"IISC_CH1_RX", 15, .rx⟩, ⟨"PARC_RX", 16, .rx⟩,
   ⟨"AESA_RX", 17, .rx⟩]

/-- The TX half of the suggested `PERIPH_TABLE` (R96; PRESUMED, log 4). -/
def Config.suggestedTx : List Periph :=
  [⟨"USART0_TX", 18, .tx⟩, ⟨"USART1_TX", 19, .tx⟩, ⟨"USART2_TX", 20, .tx⟩, ⟨"USART3_TX", 21, .tx⟩,
   ⟨"SPI_TX", 22, .tx⟩, ⟨"TWIM0_TX", 23, .tx⟩, ⟨"TWIM1_TX", 24, .tx⟩, ⟨"TWIM2_TX", 25, .tx⟩,
   ⟨"TWIM3_TX", 26, .tx⟩, ⟨"TWIS0_TX", 27, .tx⟩, ⟨"TWIS1_TX", 28, .tx⟩, ⟨"ADCIFE_TX", 29, .tx⟩,
   ⟨"CATB_TX", 30, .tx⟩, ⟨"ABDACB_SDR0_TX", 31, .tx⟩, ⟨"ABDACB_SDR1_TX", 32, .tx⟩, ⟨"IISC_CH0_TX", 33, .tx⟩,
   ⟨"IISC_CH1_TX", 34, .tx⟩, ⟨"DACC_TX", 35, .tx⟩, ⟨"AESA_TX", 36, .tx⟩, ⟨"LCDCA_ACMDR_TX", 37, .tx⟩,
   ⟨"LCDCA_ABMDR_TX", 38, .tx⟩]

/-- The suggested values of the open parameters (R7, R96, R121 default `draw`; memory as 95_test_vectors.md admits it).
PRESUMED (log 4, log 9); unsafe only for a claim about the reset state, since a claim about every state holds for every
`Params`. -/
def Config.suggested : Params where
  dmaBase := 0x400A2000
  stride  := 0x40
  periphs := Config.suggestedRx ++ Config.suggestedTx
  clkOff  := .draw
  regions := [⟨0x20000000, 0x10000, true, true⟩]

/-- The `n`-th drawn 32-bit value: what a read of a write-only register, or of a block that is not clocked, returns
(R121, R133). A free value: it has no body (log 5). -/
opaque Config.drawWord : Nat → Word

/-- The `n`-th drawn boolean: whether a write to a block that is not clocked lands (R121). A free value (log 5). -/
opaque Config.drawBool : Nat → Bool

/-- What `PSR` of a channel holds after the reset that drew as number `n` (R22: any 8-bit value, drawn once at reset).
A free value (log 6). -/
opaque Config.psrAtReset : Nat → Chan → BitVec 8

end Sys2Proof
end

