-- ==== Sys2Proof/Syntax.lean ====
section
/-! DEFINITION. The instructions of the block: 24 register primitives and 11 engine operations, one constructor per row of
spec/opcode_table.json (30_encoding.md R93, R100), and the two request formats that carry them (R90). -/

namespace Sys2Proof

/-- The twelve registers of one bank (10_state.md R28). -/
inductive Reg where
  | mar | psr | tcr | marr | tcrr | cr | mr | sr | ier | idr | imr | isr
deriving DecidableEq, Repr

/-- Element width: Byte, Halfword or Word (10_state.md R37). -/
inductive Width where
  | byte | half | word
deriving DecidableEq, Repr

/-- A buffer `(addr, blen)`: start address and length in bytes (30_encoding.md R101). -/
structure Buffer where
  addr : Word
  blen : Word
deriving DecidableEq, Repr

/-- The 35 instructions. `c` is the channel; `v` the data word of a register write. -/
inductive Instr where
  | rdMar (c : Chan) | wrMar (c : Chan) (v : Word)
  | rdPsr (c : Chan) | wrPsr (c : Chan) (v : Word)
  | rdTcr (c : Chan) | wrTcr (c : Chan) (v : Word)
  | rdMarr (c : Chan) | wrMarr (c : Chan) (v : Word)
  | rdTcrr (c : Chan) | wrTcrr (c : Chan) (v : Word)
  | rdCr (c : Chan) | wrCr (c : Chan) (v : Word)
  | rdMr (c : Chan) | wrMr (c : Chan) (v : Word)
  | rdSr (c : Chan) | wrSr (c : Chan) (v : Word)
  | rdIer (c : Chan) | wrIer (c : Chan) (v : Word)
  | rdIdr (c : Chan) | wrIdr (c : Chan) (v : Word)
  | rdImr (c : Chan) | wrImr (c : Chan) (v : Word)
  | rdIsr (c : Chan) | wrIsr (c : Chan) (v : Word)
  | new (c : Chan)
  | init (c : Chan) (k : Word) (w : Width)
  | enable (c : Chan)
  | disable (c : Chan)
  | isen (c : Chan)
  | prepare (c : Chan) (p : BitVec 8) (b : Buffer) (r : Word)
  | start (c : Chan)
  | xfer (c : Chan) (p : BitVec 8) (b : Buffer) (r : Word)
  | irq (c : Chan)
  | abort (c : Chan)
  | count (c : Chan)
deriving DecidableEq, Repr

/-- What reaches the block: a register access (33-bit header `{WE, ADDR}`, the data word of a write, the access size in
bits) or a 128-bit command word (R90, R61). -/
inductive Request where
  | reg (header : BitVec 33) (wdata : Option Word) (size : Nat)
  | cmd (w : BitVec 128)
deriving DecidableEq, Repr

end Sys2Proof
end

