-- ==== Sys2Proof/Machine/Operands.lean ====
section
/-! DEFINITION. Operands: width codes, register offsets and addresses, the length clamp, the peripheral table, the command
and field constants (30_encoding.md R91 to R97; 42_transfer.md R181). -/

namespace Sys2Proof.Machine

/-- `bytes(w)` (10_state.md R37). -/
def widthBytes : Width → Nat
  | .byte => 1
  | .half => 2
  | .word => 4

/-- `code(w)`, the two bits written into `MR.SIZE` and into the `W` field of `init` (R94). -/
def widthCode : Width → BitVec 2
  | .byte => 0
  | .half => 1
  | .word => 2

/-- The width of a size code; 3 is not a width (R94). -/
def widthOfCode (b : BitVec 2) : Option Width :=
  if b = 0 then some .byte else if b = 1 then some .half else if b = 2 then some .word else none

/-- `off(r)`, the table of R91. That `REG_LAYOUT`, these offsets and the bit positions of R92, is fixed here and no parameter
of `Params`, as R8 and D4 would allow, is the model's choice (log 35, DESIGN CHOICE). -/
def regOffset : Reg → Nat
  | .mar => 0x00
  | .psr => 0x04
  | .tcr => 0x08
  | .marr => 0x0C
  | .tcrr => 0x10
  | .cr => 0x14
  | .mr => 0x18
  | .sr => 0x1C
  | .ier => 0x20
  | .idr => 0x24
  | .imr => 0x28
  | .isr => 0x2C

/-- The twelve registers in the order of their offsets (R91). -/
def allRegs : List Reg := [.mar, .psr, .tcr, .marr, .tcrr, .cr, .mr, .sr, .ier, .idr, .imr, .isr]

/-- The register at an offset, if one stands there (R62, R105). -/
def regOfOffset (off : Nat) : Option Reg := allRegs.find? fun r => regOffset r == off

/-- `DMA_BASE + c * CHANNEL_STRIDE`, the channel's register base (R62; R162). -/
def chanBase (P : Params) (c : Chan) : Word := BitVec.ofNat 32 (P.dmaBase.toNat + c.val * P.stride)

/-- `addr(c, r)` (R62). -/
def regAddr (P : Params) (c : Chan) (r : Reg) : Word :=
  BitVec.ofNat 32 (P.dmaBase.toNat + c.val * P.stride + regOffset r)

/-- Whether a byte address lies in the register space `[DMA_BASE, DMA_BASE + 16 * CHANNEL_STRIDE)` (R60). -/
def inRegSpace (P : Params) (a : Nat) : Bool :=
  decide (P.dmaBase.toNat ≤ a) && decide (a < P.dmaBase.toNat + 16 * P.stride)

/-- The table entry of a peripheral code (R9). -/
def periphOf (P : Params) (p : BitVec 8) : Option Periph := P.periphs.find? fun e => e.code == p

/-- `valid(p)`: the code is in the table (R96). -/
def validPid (P : Params) (p : BitVec 8) : Bool := (periphOf P p).isSome

/-- `dir(p)` (R97). -/
def pidDir (P : Params) (p : BitVec 8) : Option Direction := (periphOf P p).map Periph.dir

/-- `n = min(R, floor(L / bytes(w)))` on naturals (R181). -/
def clampCount (w : Width) (blen r : Word) : Nat := min r.toNat (blen.toNat / widthBytes w)

/-- The count field's value: `trunc_16(n)` (R181). -/
def programmedCount (w : Width) (blen r : Word) : BitVec 16 := BitVec.ofNat 16 (clampCount w blen r)

/-- `INT_ALL`: all three interrupt sources (R92; this and the constants below: positions fixed, log 35). -/
def intAll : Word := 0x7
/-- `INT_TRC`: the transfer-complete source (R92). -/
def intTrc : Word := 0x2
/-- `CR_TEN` (R92). -/
def crTen : Word := 0x1
/-- `CR_TDIS` (R92). -/
def crTdis : Word := 0x2
/-- `CR_ECLR` (R92). -/
def crEclr : Word := 0x100

/-- A `wr.CR` word the spec admits: not `TEN` and `TDIS` together (R134, R105). -/
def crAdmitted (v : Word) : Bool := !(v.getLsbD 0 && v.getLsbD 1)

/-- A `wr.MR` word the spec admits: `RING = 0`, `ETRIG = 0`, `SIZE` not 3 (R136, R105). -/
def mrAdmitted (v : Word) : Bool := !v.getLsbD 3 && !v.getLsbD 2 && (widthOfCode (v.setWidth 2)).isSome

/-- A register write that is not one of the refused forms of R105. -/
def writeAdmitted (r : Reg) (v : Word) : Bool :=
  match r with
  | .cr => crAdmitted v
  | .mr => mrAdmitted v
  | .mar | .psr | .tcr | .marr | .tcrr | .sr | .ier | .idr | .imr | .isr => true

end Sys2Proof.Machine
end

