-- ==== Sys2Proof/WellFormed.lean ====
section
/-! DEFINITION. Which terms of `Instr` spell an instruction, under given parameters (30_encoding.md R105): the peripheral
code is in the table, and a write to `CR` or `MR` is not one of the refused words. A channel outside 0..15, a width 3 and a
reserved opcode are no terms at all. -/

namespace Sys2Proof

/-- The checks by value of R105. -/
def Instr.wellFormed (P : Params) : Instr → Bool
  | .wrCr _ v => Machine.crAdmitted v
  | .wrMr _ v => Machine.mrAdmitted v
  | .prepare _ p _ _ | .xfer _ p _ _ => Machine.validPid P p
  | .rdMar _ | .rdPsr _ | .rdTcr _ | .rdMarr _ | .rdTcrr _ | .rdCr _ | .rdMr _ | .rdSr _ | .rdIer _ | .rdIdr _
  | .rdImr _ | .rdIsr _ | .wrMar _ _ | .wrPsr _ _ | .wrTcr _ _ | .wrMarr _ _ | .wrTcrr _ _ | .wrSr _ _ | .wrIer _ _
  | .wrIdr _ _ | .wrImr _ _ | .wrIsr _ _ | .new _ | .init _ _ _ | .enable _ | .disable _ | .isen _ | .start _
  | .irq _ | .abort _ | .count _ => true

end Sys2Proof
end

