-- ==== Sys2Proof/Decode.lean ====
section
/-! DEFINITION. The decoder, total on every request, rejecting by name (30_encoding.md R93, R100, R105); the encoder,
written from the same tables; the RESP word (R104); and the host's numbering of a table row's bits. -/

namespace Sys2Proof

/-- Why a request spells no instruction (R105, R61, R62). Safe: the spec gives such a request no meaning. -/
inductive Reject where
  /-- A register access of a size other than 32 bits (R61). -/
  | accessSize
  /-- An address outside the register block (R62). -/
  | outsideBlock
  /-- An offset at which no register stands (R62, R91). -/
  | noRegister
  /-- A write without its data word, or a read with one (R90). -/
  | dataWord
  /-- `wr.CR` with `TEN` and `TDIS` together (R134). -/
  | contradictoryCr
  /-- `wr.MR` with `RING`, `ETRIG` or `SIZE = 3` (R136). -/
  | reservedMode
  /-- `OP` 11 to 15 (R100). -/
  | reservedOpcode
  /-- A field the operation does not use, or `Z`, is not 0 (R100). -/
  | unusedField
  /-- `init` with `W = 3` (R94). -/
  | reservedWidth
  /-- `PID` not in the table (R96). -/
  | notAPeripheral
deriving DecidableEq, Repr

/-- The read primitive of a register (R93). -/
def readInstr (r : Reg) (c : Chan) : Instr :=
  match r with
  | .mar => .rdMar c
  | .psr => .rdPsr c
  | .tcr => .rdTcr c
  | .marr => .rdMarr c
  | .tcrr => .rdTcrr c
  | .cr => .rdCr c
  | .mr => .rdMr c
  | .sr => .rdSr c
  | .ier => .rdIer c
  | .idr => .rdIdr c
  | .imr => .rdImr c
  | .isr => .rdIsr c

/-- The write primitive of a register (R93), less the refused words of `CR` and `MR` (R105). -/
def writeInstr (r : Reg) (c : Chan) (v : Word) : Except Reject Instr :=
  match r with
  | .mar => .ok (.wrMar c v)
  | .psr => .ok (.wrPsr c v)
  | .tcr => .ok (.wrTcr c v)
  | .marr => .ok (.wrMarr c v)
  | .tcrr => .ok (.wrTcrr c v)
  | .cr => if Machine.crAdmitted v then .ok (.wrCr c v) else .error .contradictoryCr
  | .mr => if Machine.mrAdmitted v then .ok (.wrMr c v) else .error .reservedMode
  | .sr => .ok (.wrSr c v)
  | .ier => .ok (.wrIer c v)
  | .idr => .ok (.wrIdr c v)
  | .imr => .ok (.wrImr c v)
  | .isr => .ok (.wrIsr c v)

/-- Decoding a register address back into channel and register (R62). -/
def decodeRegAddr (P : Params) (a : Word) : Except Reject (Chan × Reg) :=
  if Machine.inRegSpace P a.toNat then
    match Machine.regOfOffset ((a.toNat - P.dmaBase.toNat) % P.stride) with
    | none => .error .noRegister
    | some r => .ok (Fin.ofNat 16 ((a.toNat - P.dmaBase.toNat) / P.stride), r)
  else .error .outsideBlock

/-- The REG format: `H = {WE, ADDR}`, then `WDATA` for a write (R93). -/
def decodeReg (P : Params) (header : BitVec 33) (wdata : Option Word) (size : Nat) : Except Reject Instr :=
  if size = 32 then
    match decodeRegAddr P (header.setWidth 32) with
    | .error e => .error e
    | .ok (c, r) =>
      match header.getLsbD 32, wdata with
      | false, none => .ok (readInstr r c)
      | true, some v => writeInstr r c v
      | _, _ => .error .dataWord
  else .error .accessSize

/-- The fields of the CMD word (R100). -/
structure CmdFields where
  op   : BitVec 4
  ch   : BitVec 4
  pid  : BitVec 8
  w    : BitVec 2
  z    : BitVec 14
  a    : Word
  blen : Word
  rlen : Word
deriving DecidableEq, Repr

/-- Taking the CMD word apart (R100). -/
def cmdFields (x : BitVec 128) : CmdFields where
  op   := x.extractLsb' 0 4
  ch   := x.extractLsb' 4 4
  pid  := x.extractLsb' 8 8
  w    := x.extractLsb' 16 2
  z    := x.extractLsb' 18 14
  a    := x.extractLsb' 32 32
  blen := x.extractLsb' 64 32
  rlen := x.extractLsb' 96 32

/-- Putting the CMD word together, most significant field first (R100). -/
def cmdWord (f : CmdFields) : BitVec 128 :=
  f.rlen ++ f.blen ++ f.a ++ f.z ++ f.w ++ f.pid ++ f.ch ++ f.op

/-- The 4-bit `CH` field as a channel, and back (R100). -/
def chanOfField (b : BitVec 4) : Chan := Fin.ofNat 16 b.toNat

/-- The `CH` field of a channel (R100). -/
def chanField (c : Chan) : BitVec 4 := BitVec.ofNat 4 c.val

/-- An operation that uses `CH` only: every other field is 0 (R100, R105). -/
def onlyChannel (f : CmdFields) (i : Instr) : Except Reject Instr :=
  if f.pid = 0 ∧ f.w = 0 ∧ f.z = 0 ∧ f.a = 0 ∧ f.blen = 0 ∧ f.rlen = 0 then .ok i else .error .unusedField

/-- `init`: uses `CH`, `W` and `A`; `W` is not 3 (R100, R94). -/
def decodeInit (f : CmdFields) : Except Reject Instr :=
  if f.pid = 0 ∧ f.z = 0 ∧ f.blen = 0 ∧ f.rlen = 0 then
    match Machine.widthOfCode f.w with
    | none => .error .reservedWidth
    | some w => .ok (.init (chanOfField f.ch) f.a w)
  else .error .unusedField

/-- `prepare` and `xfer`: use everything but `W` and `Z`; `PID` is in the table (R100, R105). -/
def decodeTransfer (P : Params) (f : CmdFields) (i : Chan → BitVec 8 → Buffer → Word → Instr) : Except Reject Instr :=
  if f.w = 0 ∧ f.z = 0 then
    if Machine.validPid P f.pid then .ok (i (chanOfField f.ch) f.pid ⟨f.a, f.blen⟩ f.rlen)
    else .error .notAPeripheral
  else .error .unusedField

/-- The opcode map of the CMD format (R100). -/
def decodeFields (P : Params) (f : CmdFields) : Except Reject Instr :=
  match f.op.toNat with
  | 0 => onlyChannel f (.new (chanOfField f.ch))
  | 1 => decodeInit f
  | 2 => onlyChannel f (.enable (chanOfField f.ch))
  | 3 => onlyChannel f (.disable (chanOfField f.ch))
  | 4 => onlyChannel f (.isen (chanOfField f.ch))
  | 5 => decodeTransfer P f .prepare
  | 6 => onlyChannel f (.start (chanOfField f.ch))
  | 7 => decodeTransfer P f .xfer
  | 8 => onlyChannel f (.irq (chanOfField f.ch))
  | 9 => onlyChannel f (.abort (chanOfField f.ch))
  | 10 => onlyChannel f (.count (chanOfField f.ch))
  | _ => .error .reservedOpcode

/-- The decoder: total, and every request it turns away is turned away by name (R105). -/
def decode (P : Params) : Request → Except Reject Instr
  | .reg header wdata size => decodeReg P header wdata size
  | .cmd x => decodeFields P (cmdFields x)

/-- The REG header of an access (R93). -/
def regHeader (P : Params) (we : Bool) (c : Chan) (r : Reg) : BitVec 33 :=
  (BitVec.ofBool we) ++ (Machine.regAddr P c r)

/-- A register read as a request (R93). -/
def readRequest (P : Params) (c : Chan) (r : Reg) : Request := .reg (regHeader P false c r) none 32

/-- A register write as a request (R93). -/
def writeRequest (P : Params) (c : Chan) (r : Reg) (v : Word) : Request := .reg (regHeader P true c r) (some v) 32

/-- A command that uses `CH` only (R100). -/
def channelCmd (op : BitVec 4) (c : Chan) : Request := .cmd (cmdWord ⟨op, chanField c, 0, 0, 0, 0, 0, 0⟩)

/-- The encoder: the request of an instruction (R93, R100). -/
def encode (P : Params) : Instr → Request
  | .rdMar c => readRequest P c .mar
  | .wrMar c v => writeRequest P c .mar v
  | .rdPsr c => readRequest P c .psr
  | .wrPsr c v => writeRequest P c .psr v
  | .rdTcr c => readRequest P c .tcr
  | .wrTcr c v => writeRequest P c .tcr v
  | .rdMarr c => readRequest P c .marr
  | .wrMarr c v => writeRequest P c .marr v
  | .rdTcrr c => readRequest P c .tcrr
  | .wrTcrr c v => writeRequest P c .tcrr v
  | .rdCr c => readRequest P c .cr
  | .wrCr c v => writeRequest P c .cr v
  | .rdMr c => readRequest P c .mr
  | .wrMr c v => writeRequest P c .mr v
  | .rdSr c => readRequest P c .sr
  | .wrSr c v => writeRequest P c .sr v
  | .rdIer c => readRequest P c .ier
  | .wrIer c v => writeRequest P c .ier v
  | .rdIdr c => readRequest P c .idr
  | .wrIdr c v => writeRequest P c .idr v
  | .rdImr c => readRequest P c .imr
  | .wrImr c v => writeRequest P c .imr v
  | .rdIsr c => readRequest P c .isr
  | .wrIsr c v => writeRequest P c .isr v
  | .new c => channelCmd 0 c
  | .init c k w => .cmd (cmdWord ⟨1, chanField c, 0, Machine.widthCode w, 0, k, 0, 0⟩)
  | .enable c => channelCmd 2 c
  | .disable c => channelCmd 3 c
  | .isen c => channelCmd 4 c
  | .prepare c p b r => .cmd (cmdWord ⟨5, chanField c, p, 0, 0, b.addr, b.blen, r⟩)
  | .start c => channelCmd 6 c
  | .xfer c p b r => .cmd (cmdWord ⟨7, chanField c, p, 0, 0, b.addr, b.blen, r⟩)
  | .irq c => channelCmd 8 c
  | .abort c => channelCmd 9 c
  | .count c => channelCmd 10 c

/-- The request that a table row's bits stand for, in the host's numbering (log 21): a row of 33 to 72 bits is a REG access
(header in bits 32..0, the header's last byte padded to bit 39, the data word of a write in bits 71..40); any other row is a
CMD word. -/
def tableRequest (nbits w : Nat) : Request :=
  if 32 < nbits ∧ nbits ≤ 72 then
    let h := BitVec.ofNat 33 w
    .reg h (if h.getLsbD 32 then some (BitVec.ofNat 32 (w / 2 ^ 40)) else none) 32
  else .cmd (BitVec.ofNat 128 w)

/-- The instruction the decoder reads from a table row's bits, under the suggested parameters the table is written for
(R110). -/
def decodeTableWord (nbits w : Nat) : Option Instr :=
  match decode Config.suggested (tableRequest nbits w) with
  | .ok i => some i
  | .error _ => none

/-- `RESP.STATUS` (R104): `OK` or one of the four faults of 60_exceptions.md R241 to R244. -/
inductive Status where
  | ok | slotOccupied | notInitialized | badPeripheralCode | counterUnderflow
deriving DecidableEq, Repr

/-- The status code (R104). -/
def Status.code : Status → BitVec 4
  | .ok => 0
  | .slotOccupied => 1
  | .notInitialized => 2
  | .badPeripheralCode => 3
  | .counterUnderflow => 4

/-- The response of an engine operation (R104). -/
structure Resp where
  status  : Status
  present : Bool
  v0      : Word
  v1      : Word
deriving DecidableEq, Repr

/-- The RESP word: `STATUS` 3:0, `PRESENT` 4, zero 31:5, `V0` 63:32, `V1` 95:64 (R104). -/
def respWord (r : Resp) : BitVec 96 :=
  r.v1 ++ r.v0 ++ (0 : BitVec 27) ++ BitVec.ofBool r.present ++ r.status.code

end Sys2Proof
end

