-- ==== Sys2Proof/Machine/State.lean ====
section
/-! DEFINITION. The state of the block as plain data (10_state.md R20 to R48), the inputs it is driven by, the reasons a step
can stop, and the state after reset (70_reset_and_hazards.md R270). -/

namespace Sys2Proof.Machine

/-- The lifecycle state of an engine (R40). -/
inductive Lifecycle where
  | disabled | idle | configured | running
deriving DecidableEq, Repr

/-- One of the two clock domains (R42, R161). -/
inductive Domain where
  | d0 | d1
deriving DecidableEq, Repr

/-- Everything that belongs to one channel: its register bank (R21 to R34), its engine (R36 to R40) and its pending latch
(R43). `CR`, `IER` and `IDR` store nothing; `ISR` and the line are computed. -/
structure Channel where
  /-- `MAR`, current transfer address (R21). -/
  mar   : Word
  /-- `PSR.PID`, peripheral code (R22). -/
  psr   : BitVec 8
  /-- `TCR.TCV`, elements remaining (R23). -/
  tcr   : BitVec 16
  /-- `MARR`, reload address (R24). -/
  marr  : Word
  /-- `TCRR.TCRV`, reload count (R25). -/
  tcrr  : BitVec 16
  /-- `MR`: `RING` bit 3, `ETRIG` bit 2, `SIZE` bits 1:0 (R29). -/
  mr    : BitVec 4
  /-- `SR.TEN`, transfer enabled (R30). -/
  ten   : Bool
  /-- `IMR`: `TERR` bit 2, `TRC` bit 1, `RCZ` bit 0; 1 = unmasked (R32). -/
  imr   : BitVec 3
  /-- The transfer-error latch (R34). -/
  terr  : Bool
  /-- The registered callback handle (R36). -/
  cb    : Option Word
  /-- The configured width (R37). -/
  width : Option Width
  /-- The software-mirrored enabled flag (R38). -/
  en    : Bool
  /-- The active buffer slot (R39). -/
  slot  : Option Buffer
  /-- The lifecycle state (R40). -/
  fsm   : Lifecycle
  /-- The pending-completion latch (R43). -/
  pend  : Bool
deriving DecidableEq, Repr

/-- What an operation in progress carries from one micro-step to the next: `w` and `trunc_16(n)` of R180, `old` of R165, `v`
of R184 and R226, `b` of R185, and whether `transfer_done` was emitted (R229; log 20). -/
structure Locals where
  width   : Width := .byte
  count   : BitVec 16 := 0
  old     : BitVec 32 := 0
  value   : Word := 0
  buf     : Option Buffer := none
  emitted : Bool := false
deriving DecidableEq, Repr

/-- A position `(op, i)` in an operation: `idx` counts the micro-steps already made (R44). -/
structure Frame where
  op  : Instr
  idx : Nat
  loc : Locals
deriving DecidableEq, Repr

/-- Where an execution context is (R44): idle; inside an operation, with the operation of the receiver's reaction it is
running, if any (R229); or, for the interrupt context, between the handler's last micro-step and the return (R225). -/
inductive Context where
  | idle
  | running (f : Frame) (inner : Option Frame)
  | returning
deriving DecidableEq, Repr

/-- An entry of `clk_log`: a call to the clock collaborator (R45, R161). -/
structure ClkEvent where
  on     : Bool
  domain : Domain
deriving DecidableEq, Repr

/-- An entry of `cb_log`: `transfer_done(k, p)` (R45, R228). -/
structure CbEvent where
  handle : Word
  pid    : BitVec 8
deriving DecidableEq, Repr

/-- A read or a write on the memory port. -/
inductive Access where
  | read | write
deriving DecidableEq, Repr

/-- An entry of `mem_log`: channel, kind, address, size, and the value moved, or `none` where the port refused (R45, R66). -/
structure MemEvent where
  chan  : Chan
  kind  : Access
  addr  : Word
  size  : Nat
  value : Option Word
deriving DecidableEq, Repr

/-- An entry of `per_log`: a `PeriphPop` or a `PeriphPush` (R45, R204). -/
inductive PerEvent where
  | pop (p : BitVec 8) (n : Nat) (v : Word)
  | push (p : BitVec 8) (n : Nat) (v : Word)
deriving DecidableEq, Repr

/-- An entry of `resp_log`: an operation and its response or fault (R45, R240). -/
structure RespEvent where
  op   : Instr
  resp : Resp
deriving DecidableEq, Repr

/-- An entry of the register traffic: an access issued and, for a read, the word it returned (R147; log 11). -/
inductive BusEvent where
  | rd (c : Chan) (r : Reg) (v : Word)
  | wr (c : Chan) (r : Reg) (v : Word)
deriving DecidableEq, Repr

/-- An entry of the host's own memory traffic: the access, the byte it read or wrote, and whether a channel owned that byte,
which makes the access a race (R72, R290, U20; log 18). -/
structure HostEvent where
  kind  : Access
  addr  : Word
  value : Byte
  race  : Bool
deriving DecidableEq, Repr

/-- What the environment does next: one entry of the input tape drives one step (R47, R250, R251; log 1). -/
inductive Input where
  /-- The host issues a request and the normal context runs it with no other agent's step in between (log 3). -/
  | command (r : Request)
  /-- The host issues a request and the idle normal context accepts it (R250). -/
  | accept (r : Request)
  /-- The normal context makes its next micro-step. -/
  | normal
  /-- The serializer dispatches channel `c` (R222). -/
  | dispatch (c : Chan)
  /-- The interrupt context makes its next micro-step, or returns (R225). -/
  | interrupt
  /-- `Mover[c]` is chosen; the peripheral's readiness and, for RX, the element it offers (R202, R204). -/
  | mover (c : Chan) (ready : Bool) (elem : Word)
  /-- The callback receiver issues a request as its reaction (R229). -/
  | react (r : Request)
  /-- The host reads a byte of system memory (R276). -/
  | hostRead (a : Word)
  /-- The host writes a byte of system memory (R276). -/
  | hostWrite (a : Word) (b : Byte)
  /-- The reset event (R270). -/
  | reset
deriving DecidableEq, Repr

/-- System memory: (address, byte) pairs in canonical form (`Memory.wf`). -/
abbrev Memory := List Host.Cell

/-- The state of the block and of the environment it is run in. -/
structure State where
  /-- The open parameters; no step changes them (log 4). -/
  params     : Params
  /-- The sixteen channels (R20). -/
  chans      : Vector Channel 16
  /-- The Shared Enablement Counter (R41). -/
  numEnabled : BitVec 32
  /-- `clk[0]` (R42). -/
  clk0       : Bool
  /-- `clk[1]` (R42). -/
  clk1       : Bool
  /-- The channel whose handler is running (R43). -/
  active     : Option Chan
  /-- The normal context (R44). -/
  ctxN       : Context
  /-- The interrupt context (R44). -/
  ctxI       : Context
  /-- System memory (R60). -/
  mem        : Memory
  /-- `clk_log` (R45). -/
  clkLog     : List ClkEvent
  /-- `cb_log` (R45). -/
  cbLog      : List CbEvent
  /-- `mem_log` (R45). -/
  memLog     : List MemEvent
  /-- `per_log` (R45). -/
  perLog     : List PerEvent
  /-- `resp_log` (R45). -/
  respLog    : List RespEvent
  /-- The register traffic, the model's own log (R147; log 11). -/
  busLog     : List BusEvent
  /-- The host's accesses to system memory, the model's own log (log 18). -/
  hostLog    : List HostEvent
  /-- How many free values have been drawn (log 5). -/
  draws      : Nat
  /-- The input tape, oldest first (log 1). -/
  inputs     : List Input
deriving DecidableEq, Repr

/-- Why the machine stops with a fault: a host that breaks a duty of 70_reset_and_hazards.md R276, to which the spec gives no
move. Raised by the handling of an input, never by an instruction's meaning. The four faults of 60_exceptions.md R240 are not
here: they are recorded responses after which the block goes on (log 10). -/
inductive Fault where
  /-- A command, a reaction or a host access to memory while the context that would issue it is inside an operation or suspended
  (R276, R251 (c)). Safe. -/
  | contextBusy
  /-- A reaction where no `transfer_done` is being handled (R276). Safe. -/
  | reactionOutsideCallback
  /-- `irq` issued by the callback receiver (R229, R276). Safe. -/
  | irqInReaction
  /-- A host access outside allocated system memory: the host accesses system memory only (R60, R276). Safe. -/
  | outsideMemory
deriving DecidableEq, Repr

/-- Why the machine refuses: the spec gives the form no meaning (30_encoding.md R105, 60_exceptions.md R245). Every
constructor is safe: the run is marked refused and nothing is concluded of it. -/
inductive Refusal where
  /-- An instruction that has no meaning yet; raised by `exec`'s arms only. -/
  | notModelled (mnemonic : String)
  /-- A request that spells no instruction; raised when a request is decoded (R105). -/
  | notAnInstruction (why : Reject)
  /-- `wr.CR` with `TEN` and `TDIS` together; raised by `wr.CR` (R134). -/
  | contradictoryCr
  /-- `wr.MR` with `RING`, `ETRIG` or `SIZE = 3`; raised by `wr.MR` (R136). -/
  | reservedMode
  /-- A peripheral code not in the table; raised by `prepare` and `xfer` (R105). -/
  | notAPeripheral
deriving DecidableEq, Repr

/-- A channel after reset, but for `PSR` (R48). -/
def Channel.reset (psr : BitVec 8) : Channel where
  mar   := 0
  psr   := psr
  tcr   := 0
  marr  := 0
  tcrr  := 0
  mr    := 0
  ten   := false
  imr   := 0
  terr  := false
  cb    := none
  width := none
  en    := false
  slot  := none
  fsm   := .disabled
  pend  := false

/-- The sixteen channels after the reset that draws as number `n` (R48; `PSR` drawn once at reset, R22). -/
def resetChannels (n : Nat) : Vector Channel 16 :=
  #v[.reset (Config.psrAtReset n 0), .reset (Config.psrAtReset n 1), .reset (Config.psrAtReset n 2),
     .reset (Config.psrAtReset n 3), .reset (Config.psrAtReset n 4), .reset (Config.psrAtReset n 5),
     .reset (Config.psrAtReset n 6), .reset (Config.psrAtReset n 7), .reset (Config.psrAtReset n 8),
     .reset (Config.psrAtReset n 9), .reset (Config.psrAtReset n 10), .reset (Config.psrAtReset n 11),
     .reset (Config.psrAtReset n 12), .reset (Config.psrAtReset n 13), .reset (Config.psrAtReset n 14),
     .reset (Config.psrAtReset n 15)]

/-- The state after the reset event of R270 on a machine with parameters `P`, memory `m`, `n` values drawn so far and inputs
`t` still to come: the block's own state at the table of R48; parameters, memory and inputs are the environment's and stay. -/
def State.resetOf (P : Params) (m : Memory) (n : Nat) (t : List Input) : State where
  params     := P
  chans      := resetChannels n
  numEnabled := 0
  clk0       := false
  clk1       := false
  active     := none
  ctxN       := .idle
  ctxI       := .idle
  mem        := m
  clkLog     := []
  cbLog      := []
  memLog     := []
  perLog     := []
  respLog    := []
  busLog     := []
  hostLog    := []
  draws      := n + 1
  inputs     := t

/-- The machine right after reset (R48, R270), with the suggested parameters (log 4), no memory byte written and nothing on
the input tape: the block "waits for commands". -/
def State.reset : State := State.resetOf Config.suggested [] 0 []

end Sys2Proof.Machine
end

