-- ==== Sys2Proof/Machine/Flags.lean ====
section
/-! DEFINITION. The computed status bits: interrupt status, interrupt line, the pending latch, the reload rule, the mode's
width (10_state.md R33; 44_interrupt_completion.md R220, R221; 43_data_mover.md R200). -/

namespace Sys2Proof.Machine

/-- `ISR`: `TERR` bit 2 latched, `TRC` bit 1 and `RCZ` bit 0 level (R33; positions fixed as in R92, log 35). -/
def Channel.isr (ch : Channel) : BitVec 3 :=
  BitVec.ofBool ch.terr ++ BitVec.ofBool (ch.tcr == 0 && ch.tcrr == 0) ++ BitVec.ofBool (ch.tcrr == 0)

/-- `line[c]`: an unmasked source is asserted (R220). -/
def Channel.line (ch : Channel) : Bool := ch.imr &&& ch.isr != 0

/-- `normalise(c)`: the reload (R200). -/
def Channel.normalise (ch : Channel) : Channel :=
  if ch.tcr = 0 ∧ ch.tcrr ≠ 0 then { ch with mar := ch.marr, tcr := ch.tcrr, tcrr := 0 } else ch

/-- Setting `pend` on a rising edge of the line between `before` and `after` (R221). -/
def Channel.latch (before after : Channel) : Channel :=
  { after with pend := after.pend || (!before.line && after.line) }

/-- The element width `MR` selects; none where the spec gives the mode no meaning (R29; log 14). -/
def modeWidth (mr : BitVec 4) : Option Width :=
  if mr.getLsbD 3 || mr.getLsbD 2 then none else widthOfCode (mr.setWidth 2)

end Sys2Proof.Machine
end

