-- ==== Sys2Proof/Machine/Memory.lean ====
section
/-! DEFINITION. System memory in canonical form, the little-endian element accesses and the admission of the memory port
(20_memory.md R64 to R70). -/

namespace Sys2Proof.Machine

/-- What an address that is not listed reads as (log 8, DESIGN CHOICE: the spec gives system memory no reset contents). -/
def blankByte : Byte := 0

/-- The byte at an address. -/
def Memory.readByte : Memory → Nat → Byte
  | [], _ => blankByte
  | (k, x) :: m, a => if a = k then x else Memory.readByte m a

/-- Writing the byte at an address, keeping the canonical form. -/
def Memory.writeByte : Memory → Nat → Byte → Memory
  | [], a, b => if b = blankByte then [] else [(a, b)]
  | (k, x) :: m, a, b =>
    if a < k then (if b = blankByte then (k, x) :: m else (a, b) :: (k, x) :: m)
    else if a = k then (if b = blankByte then m else (a, b) :: m)
    else (k, x) :: Memory.writeByte m a b

/-- Every listed address is above `lo`, addresses strictly rise, and no entry equals what an unlisted address reads as. -/
def Memory.wfAbove : Nat → Memory → Bool
  | _, [] => true
  | lo, (k, x) :: m => decide (lo ≤ k) && decide (x ≠ blankByte) && Memory.wfAbove (k + 1) m

/-- The canonical form of memory, so that equal memories are equal lists. -/
def Memory.wf (m : Memory) : Bool := Memory.wfAbove 0 m

/-- The value of `n` bytes from `a`, least significant byte at the lowest address (R64). -/
def Memory.readLE (m : Memory) (a : Nat) : Nat → Nat
  | 0 => 0
  | n + 1 => (m.readByte a).toNat + 256 * Memory.readLE m (a + 1) n

/-- Writing the low `8n` bits of `v` to `n` bytes from `a`, least significant byte at the lowest address (R64). -/
def Memory.writeLE (m : Memory) (a v : Nat) : Nat → Memory
  | 0 => m
  | n + 1 => Memory.writeLE (m.writeByte a (BitVec.ofNat 8 v)) (a + 1) (v / 256) n

/-- Whether the platform allocates a byte for a kind of access and it is outside the register space (R66; log 9). The answer
does not depend on the size of the request the byte belongs to (log 34, DESIGN CHOICE). -/
def byteAdmitted (P : Params) (k : Access) (a : Nat) : Bool :=
  !inRegSpace P a && P.regions.any fun g =>
    decide (g.base ≤ a) && decide (a < g.base + g.size) && (match k with | .read => g.read | .write => g.write)

/-- `Admits`: the request is aligned and every byte of it is admitted (R65, R66); beyond that every size is admitted alike
(log 34, DESIGN CHOICE). -/
def admits (P : Params) (k : Access) (a : Word) (n : Nat) : Bool :=
  a.toNat % n == 0 && (List.range n).all fun i => byteAdmitted P k (a.toNat + i)

/-- The `8n`-bit element value carried in a 32-bit word (R64; log 29). -/
def elemValue (n : Nat) (v : Word) : Word := BitVec.ofNat 32 (v.toNat % 2 ^ (8 * n))

end Sys2Proof.Machine
end

