-- ==== Sys2Proof/Machine/Ops.lean ====
section
/-! DEFINITION. The named operations over the state: channels, logs, clocks, the shared counter, register reads and writes
with their side effects, responses, faults, and entering and leaving the interrupt context. -/

namespace Sys2Proof.Machine

/-- The state of channel `c`. -/
def State.chan (s : State) (c : Chan) : Channel := s.chans[c]

/-- Replacing the state of channel `c`. -/
def State.setChan (s : State) (c : Chan) (ch : Channel) : State := { s with chans := s.chans.set c ch }

/-- Appending to `clk_log` (R45). -/
def State.logClk (s : State) (e : ClkEvent) : State := { s with clkLog := s.clkLog ++ [e] }

/-- Appending to `cb_log` (R45). -/
def State.logCb (s : State) (e : CbEvent) : State := { s with cbLog := s.cbLog ++ [e] }

/-- Appending to `mem_log` (R45). -/
def State.logMem (s : State) (e : MemEvent) : State := { s with memLog := s.memLog ++ [e] }

/-- Appending to `per_log` (R45). -/
def State.logPer (s : State) (e : PerEvent) : State := { s with perLog := s.perLog ++ [e] }

/-- Appending to `resp_log` (R45). -/
def State.logResp (s : State) (e : RespEvent) : State := { s with respLog := s.respLog ++ [e] }

/-- Appending to the register traffic (R147). -/
def State.logBus (s : State) (e : BusEvent) : State := { s with busLog := s.busLog ++ [e] }

/-- Appending to the host's memory traffic (log 18). -/
def State.logHost (s : State) (e : HostEvent) : State := { s with hostLog := s.hostLog ++ [e] }

/-- One more free value has been drawn. -/
def State.nextDraw (s : State) : State := { s with draws := s.draws + 1 }

/-- Replacing system memory. -/
def State.setMem (s : State) (m : Memory) : State := { s with mem := m }

/-- `clk_ok`: both clock domains are on (R42). -/
def State.clkOk (s : State) : Bool := s.clk0 && s.clk1

/-- `enable_clock(d)`: on, logged whether or not it changed anything (R161). -/
def enableClock (d : Domain) (s : State) : State :=
  match d with
  | .d0 => { s with clk0 := true }.logClk ⟨true, .d0⟩
  | .d1 => { s with clk1 := true }.logClk ⟨true, .d1⟩

/-- `disable_clock(d)` (R161). -/
def disableClock (d : Domain) (s : State) : State :=
  match d with
  | .d0 => { s with clk0 := false }.logClk ⟨false, .d0⟩
  | .d1 => { s with clk1 := false }.logClk ⟨false, .d1⟩

/-- `fetch_add(num_enabled, 1)`; the value before is not used by any operation (R160). -/
def fetchAdd (s : State) : State := { s with numEnabled := s.numEnabled + 1 }

/-- `fetch_sub(num_enabled, 1)`: the value before and the state after, or `none` for `CounterUnderflow` (R160). -/
def fetchSub (s : State) : Option (BitVec 32 × State) :=
  if s.numEnabled = 0 then none else some (s.numEnabled, { s with numEnabled := s.numEnabled - 1 })

/-- The word a read of register `r` returns; none for the write-only ports (R123 to R145). -/
def readValue (r : Reg) (ch : Channel) : Option Word :=
  match r with
  | .mar => some ch.mar
  | .psr => some (ch.psr.setWidth 32)
  | .tcr => some (ch.tcr.setWidth 32)
  | .marr => some ch.marr
  | .tcrr => some (ch.tcrr.setWidth 32)
  | .mr => some (ch.mr.setWidth 32)
  | .sr => some ((BitVec.ofBool ch.ten).setWidth 32)
  | .imr => some (ch.imr.setWidth 32)
  | .isr => some (ch.isr.setWidth 32)
  | .cr | .ier | .idr => none

/-- The register's own update by a write of `v` (R124 to R146). Reserved bits of `v` are ignored; the refused words of `CR`
and `MR` have no update. -/
def regUpdate (r : Reg) (v : Word) (ch : Channel) : Channel :=
  match r with
  | .mar => { ch with mar := v }
  | .psr => { ch with psr := v.setWidth 8 }
  | .tcr => { ch with tcr := v.setWidth 16 }
  | .marr => { ch with marr := v }
  | .tcrr => { ch with tcrr := v.setWidth 16 }
  | .cr =>
    if crAdmitted v then
      { ch with ten := if v.getLsbD 0 then true else if v.getLsbD 1 then false else ch.ten,
                terr := if v.getLsbD 8 then false else ch.terr }
    else ch
  | .mr => if mrAdmitted v then { ch with mr := (v.setWidth 2).setWidth 4 } else ch
  | .ier => { ch with imr := ch.imr ||| v.setWidth 3 }
  | .idr => { ch with imr := ch.imr &&& ~~~(v.setWidth 3) }
  | .sr | .imr | .isr => ch

/-- A landed register write on its channel: the update, then the reload and the pending latch in the same micro-step (R120);
a read-only register ignores the write (R138, R144, R146). -/
def channelWrite (r : Reg) (v : Word) (ch : Channel) : Channel :=
  match r with
  | .sr | .imr | .isr => ch
  | .mar | .psr | .tcr | .marr | .tcrr | .cr | .mr | .ier | .idr => ch.latch (regUpdate r v ch).normalise

/-- Whether this write lands (R121): always when clocked, else as `CLKOFF_ACCESS` says. -/
def State.writeLands (s : State) : Bool :=
  s.clkOk || (match s.params.clkOff with
    | .lands => true
    | .dropped => false
    | .draw => Config.drawBool s.draws)

/-- A write whose landing is a draw consumes that draw (R121). -/
def State.afterWriteDraw (s : State) : State :=
  if s.clkOk then s else match s.params.clkOff with
    | .lands | .dropped => s
    | .draw => s.nextDraw

/-- `RegWrite(c, r, v)`, one micro-step (R120, R121). -/
def regWrite (c : Chan) (r : Reg) (v : Word) (s : State) : State :=
  (if s.writeLands then s.afterWriteDraw.setChan c (channelWrite r v (s.chan c)) else s.afterWriteDraw).logBus (.wr c r v)

/-- Whether a read returns the register's own value (R121). -/
def State.readReliable (s : State) : Bool :=
  s.clkOk || s.params.clkOff == .lands

/-- The word a read returns: the register's value where it is readable and reliable, else a draw (R120, R121, R133). -/
def State.readWord (s : State) (c : Chan) (r : Reg) : Word :=
  if s.readReliable then (readValue r (s.chan c)).getD (Config.drawWord s.draws) else Config.drawWord s.draws

/-- Whether a read of `r` draws a free value (R121, R133, R139, R141). -/
def State.readDraws (s : State) (c : Chan) (r : Reg) : Bool :=
  !(s.readReliable && (readValue r (s.chan c)).isSome)

/-- `RegRead(c, r)`, one micro-step: it changes no state of the block (R120, R69). -/
def regRead (c : Chan) (r : Reg) (s : State) : Word × State :=
  (s.readWord c r, (if s.readDraws c r then s.nextDraw else s).logBus (.rd c r (s.readWord c r)))

/-- The response `OK` with every value field 0 (R104). -/
def respOk : Resp := ⟨.ok, false, 0, 0⟩

/-- The response `OK` with one value (R104). -/
def respValue (v : Word) : Resp := ⟨.ok, false, v, 0⟩

/-- The response of `abort`: the buffer or the empty result (R104, R185). -/
def respBuffer : Option Buffer → Resp
  | some b => ⟨.ok, true, b.addr, b.blen⟩
  | none => ⟨.ok, false, 0, 0⟩

/-- `raise <Fault>`: the response carries the fault's code and nothing else (R240). -/
def respFault (st : Status) : Resp := ⟨st, false, 0, 0⟩

/-- How a micro-step ends: the operation goes on with these local values, or it is over with this response (a register
primitive has none). -/
inductive Flow where
  | go (l : Locals)
  | done (r : Option Resp)
deriving DecidableEq, Repr

/-- A micro-step of an operation (R12). -/
abbrev Micro := Locals → State → State × Flow

/-- A micro-step that only changes the state. -/
def act (f : State → State) : Micro := fun l s => (f s, .go l)

/-- Ending the operation with a response. -/
def finish (r : Resp) : Micro := fun _ s => (s, .done (some r))

/-- The end of an operation: its response, if it has one, goes to `resp_log` (R45, R240). -/
def complete (op : Instr) (r : Option Resp) (s : State) : State :=
  match r with
  | some r => s.logResp ⟨op, r⟩
  | none => s

/-- Running the micro-steps that are left with no other agent's step in between; after the last the response is `OK`. -/
def runMicros : List Micro → Locals → State → State × Option Resp
  | [], _, s => (s, some respOk)
  | m :: ms, l, s =>
    match m l s with
    | (t, .go l') => runMicros ms l' t
    | (t, .done r) => (t, r)

/-- A whole operation, from its first micro-step to its response (R251 with no other agent chosen in between; log 3). -/
def runOp (op : Instr) (ms : List Micro) (s : State) : State :=
  complete op (runMicros ms {} s).2 (runMicros ms {} s).1

/-- The position before the first micro-step of an operation (R44). -/
def Frame.start (op : Instr) : Frame := ⟨op, 0, {}⟩

/-- Whether the serializer may dispatch channel `c` (R222). -/
def dispatchEnabled (s : State) (c : Chan) : Bool := s.active == none && (s.chan c).pend

/-- Taking the completion interrupt of channel `c` (R222, R252): nothing is saved, no mask changes. -/
def takeInterrupt (c : Chan) (s : State) : State :=
  { s.setChan c { s.chan c with pend := false } with
    active := some c, ctxI := .running (Frame.start (.irq c)) none }

/-- Returning from the handler (R225, R253): nothing is restored. -/
def returnFromInterrupt (s : State) : State := { s with active := none, ctxI := .idle }

end Sys2Proof.Machine
end

