-- ==== Sys2Proof/Machine/Transfer.lean ====
section
/-! DEFINITION. The operations `prepare_transfer`, `start_transfer`, `do_transfer`, `transfer_counter`, `abort_transfer`
(42_transfer.md R180 to R185) and the edges of the lifecycle table they take (R186). -/

namespace Sys2Proof.Machine

/-- `prepare_transfer` step 0: the two guards, then `w` and `n` (R180, R181). -/
def prepareGuard (c : Chan) (b : Buffer) (r : Word) : Micro := fun l s =>
  match (s.chan c).width with
  | none => (s, .done (some (respFault .notInitialized)))
  | some w =>
    if (s.chan c).slot.isSome then (s, .done (some (respFault .slotOccupied)))
    else (s, .go { l with width := w, count := programmedCount w b.blen r })

/-- `prepare_transfer` step 6: the slot is filled, `Idle` becomes `Configured` (R180). -/
def fillSlot (c : Chan) (b : Buffer) (s : State) : State :=
  s.setChan c { s.chan c with slot := some b, fsm := if (s.chan c).fsm = .idle then .configured else (s.chan c).fsm }

/-- `start_transfer` step 2: `Configured` becomes `Running` (R182). -/
def setRunning (c : Chan) (s : State) : State :=
  s.setChan c { s.chan c with fsm := if (s.chan c).fsm = .configured then .running else (s.chan c).fsm }

/-- `Configured` and `Running` become `Idle` (R185 step 3, R226 step 2). -/
def toIdle (f : Lifecycle) : Lifecycle :=
  match f with
  | .configured | .running => .idle
  | .disabled => .disabled
  | .idle => .idle

/-- `prepare_transfer` (R180). -/
def progPrepare (c : Chan) (p : BitVec 8) (b : Buffer) (r : Word) : List Micro :=
  [prepareGuard c b r,
   fun l s => (regWrite c .mr ((widthCode l.width).setWidth 32) s, .go l),
   act (regWrite c .psr (p.setWidth 32)),
   act (regWrite c .marr b.addr),
   fun l s => (regWrite c .tcrr (l.count.setWidth 32) s, .go l),
   act (regWrite c .ier intTrc),
   act (fillSlot c b)]

/-- `start_transfer` (R182). -/
def progStart (c : Chan) : List Micro := [act (regWrite c .cr crTen), act (setRunning c)]

/-- `do_transfer` (R183): the micro-steps of `prepare_transfer`, then those of `start_transfer`. -/
def progXfer (c : Chan) (p : BitVec 8) (b : Buffer) (r : Word) : List Micro := progPrepare c p b r ++ progStart c

/-- `transfer_counter` (R184): one register read, answered. -/
def progCount (c : Chan) : List Micro :=
  [fun _ s => ((regRead c .tcr s).2, .done (some (respValue (((regRead c .tcr s).1.setWidth 16).setWidth 32))))]

/-- `abort_transfer` step 3: the slot is emptied and its contents kept for the answer (R185). -/
def releaseSlot (c : Chan) : Micro := fun l s =>
  (s.setChan c { s.chan c with slot := none, fsm := toIdle (s.chan c).fsm }, .go { l with buf := (s.chan c).slot })

/-- `abort_transfer` (R185). -/
def progAbort (c : Chan) : List Micro :=
  [act (regWrite c .idr intAll),
   act (regWrite c .tcr 0),
   releaseSlot c,
   fun l s => (s, .done (some (respBuffer l.buf)))]

/-- The meaning of `prepare` (R180); a code that is not in the table is refused (R105). -/
def execPrepare (c : Chan) (p : BitVec 8) (b : Buffer) (r : Word) (s : State) : Host.Outcome State Fault Refusal :=
  if validPid s.params p then .next (runOp (.prepare c p b r) (progPrepare c p b r) s) else .refused .notAPeripheral

/-- The meaning of `start` (R182). -/
def execStart (c : Chan) (s : State) : Host.Outcome State Fault Refusal := .next (runOp (.start c) (progStart c) s)

/-- The meaning of `xfer` (R183); a code that is not in the table is refused (R105). -/
def execXfer (c : Chan) (p : BitVec 8) (b : Buffer) (r : Word) (s : State) : Host.Outcome State Fault Refusal :=
  if validPid s.params p then .next (runOp (.xfer c p b r) (progXfer c p b r) s) else .refused .notAPeripheral

/-- The meaning of `count` (R184). -/
def execCount (c : Chan) (s : State) : Host.Outcome State Fault Refusal := .next (runOp (.count c) (progCount c) s)

/-- The meaning of `abort` (R185). -/
def execAbort (c : Chan) (s : State) : Host.Outcome State Fault Refusal := .next (runOp (.abort c) (progAbort c) s)

end Sys2Proof.Machine
end

