-- ==== Sys2Proof/Machine/Interrupt.lean ====
section
/-! DEFINITION. The operation `handle_interrupt` (44_interrupt_completion.md R226 to R228). -/

namespace Sys2Proof.Machine

/-- `handle_interrupt` step 2: `Configured` and `Running` become `Idle` (R226). -/
def handlerIdle (c : Chan) (s : State) : State := s.setChan c { s.chan c with fsm := toIdle (s.chan c).fsm }

/-- `handle_interrupt` step 3: the peripheral identity is read back from `PSR` (R226). -/
def readIdentity (c : Chan) : Micro := fun l s =>
  ((regRead c .psr s).2, .go { l with value := (regRead c .psr s).1 })

/-- `handle_interrupt` step 4: a value that is no code faults (R226, R243). -/
def checkIdentity : Micro := fun l s =>
  if validPid s.params (l.value.setWidth 8) then (s, .go l) else (s, .done (some (respFault .badPeripheralCode)))

/-- `handle_interrupt` step 5: `transfer_done(k, p)` to the registered callback, or nothing (R226, R227, R228). -/
def emitDone (c : Chan) : Micro := fun l s =>
  match (s.chan c).cb with
  | some k => (s.logCb ⟨k, l.value.setWidth 8⟩, .go { l with emitted := true })
  | none => (s, .go l)

/-- `handle_interrupt` (R226). The receiver's reaction comes between step 5 and step 6 (R229; log 19). -/
def progIrq (c : Chan) : List Micro :=
  [act (regWrite c .idr intAll),
   act (handlerIdle c),
   readIdentity c,
   checkIdentity,
   emitDone c,
   finish respOk]

/-- The meaning of `irq` (R226), issued by a harness in its own context (corner e) and with the empty reaction (R229). -/
def execIrq (c : Chan) (s : State) : Host.Outcome State Fault Refusal := .next (runOp (.irq c) (progIrq c) s)

end Sys2Proof.Machine
end

