-- ==== Sys2Proof/Machine/Lifecycle.lean ====
section
/-! DEFINITION. The operations `new`, `initialize`, `enable`, `disable`, `is_enabled` (41_lifecycle.md R162 to R166): first
the micro-steps of each, in the order of its rule, then its meaning, the micro-steps run as one operation. -/

namespace Sys2Proof.Machine

/-- `enable` step 6: the flag, and `Disabled` becomes `Idle` (R164). -/
def setEnabled (c : Chan) (s : State) : State :=
  s.setChan c { s.chan c with en := true, fsm := if (s.chan c).fsm = .disabled then .idle else (s.chan c).fsm }

/-- `disable` step 6: the flag, and any state becomes `Disabled` (R165, R186). -/
def setDisabled (c : Chan) (s : State) : State := s.setChan c { s.chan c with en := false, fsm := .disabled }

/-- `new` (R162): answers the channel's register base. -/
def progNew (c : Chan) : List Micro := [fun _ s => (s, .done (some (respValue (chanBase s.params c))))]

/-- `initialize` (R163): stores the callback, then the width. -/
def progInit (c : Chan) (k : Word) (w : Width) : List Micro :=
  [act fun s => s.setChan c { s.chan c with cb := some k },
   act fun s => s.setChan c { s.chan c with width := some w }]

/-- `enable` (R164). -/
def progEnable (c : Chan) : List Micro :=
  [act (enableClock .d0),
   act (enableClock .d1),
   fun l s => if (s.chan c).en then (s, .done (some respOk)) else (s, .go l),
   act fetchAdd,
   act (regWrite c .idr intAll),
   act (setEnabled c)]

/-- `disable` steps 3 and 4: the clock goes off if the counter stood at 1 (R165). -/
def lastClockOff (d : Domain) : Micro := fun l s => (if l.old = 1 then disableClock d s else s, .go l)

/-- `disable` step 2: the decrement, which faults at 0 (R160, R165, R244). -/
def decrement : Micro := fun l s =>
  match fetchSub s with
  | none => (s, .done (some (respFault .counterUnderflow)))
  | some (old, t) => (t, .go { l with old := old })

/-- `disable` (R165). -/
def progDisable (c : Chan) : List Micro :=
  [fun l s => if (s.chan c).en then (s, .go l) else (s, .done (some respOk)),
   decrement,
   lastClockOff .d0,
   lastClockOff .d1,
   act (regWrite c .cr crTdis),
   act (setDisabled c)]

/-- `is_enabled` (R166): the software flag. -/
def progIsen (c : Chan) : List Micro :=
  [fun _ s => (s, .done (some (respValue (if (s.chan c).en then 1 else 0))))]

/-- The meaning of `new` (R162). -/
def execNew (c : Chan) (s : State) : Host.Outcome State Fault Refusal := .next (runOp (.new c) (progNew c) s)

/-- The meaning of `init` (R163). -/
def execInit (c : Chan) (k : Word) (w : Width) (s : State) : Host.Outcome State Fault Refusal :=
  .next (runOp (.init c k w) (progInit c k w) s)

/-- The meaning of `enable` (R164). -/
def execEnable (c : Chan) (s : State) : Host.Outcome State Fault Refusal := .next (runOp (.enable c) (progEnable c) s)

/-- The meaning of `disable` (R165). -/
def execDisable (c : Chan) (s : State) : Host.Outcome State Fault Refusal := .next (runOp (.disable c) (progDisable c) s)

/-- The meaning of `isen` (R166). -/
def execIsen (c : Chan) (s : State) : Host.Outcome State Fault Refusal := .next (runOp (.isen c) (progIsen c) s)

end Sys2Proof.Machine
end

