-- ==== Sys2Proof/Machine/Registers.lean ====
section
/-! DEFINITION. The 24 register primitives (40_register_access.md R120 to R146): each is one micro-step, a read or a write of
one register of one channel, and has no RESP (R90). -/

namespace Sys2Proof.Machine

/-- The one micro-step of a read primitive; the word read stands in the register traffic (R120; log 11). -/
def readMicro (c : Chan) (r : Reg) : Micro := fun _ s => ((regRead c r s).2, .done none)

/-- The one micro-step of a write primitive (R120). -/
def writeMicro (c : Chan) (r : Reg) (v : Word) : Micro := fun _ s => (regWrite c r v s, .done none)

/-- `rd.MAR` (R123): the current transfer address. -/
def progRdMar (c : Chan) : List Micro := [readMicro c .mar]

/-- `wr.MAR` (R124): all 32 bits. -/
def progWrMar (c : Chan) (v : Word) : List Micro := [writeMicro c .mar v]

/-- `rd.PSR` (R125): the peripheral code. -/
def progRdPsr (c : Chan) : List Micro := [readMicro c .psr]

/-- `wr.PSR` (R126): bits 31:8 ignored. -/
def progWrPsr (c : Chan) (v : Word) : List Micro := [writeMicro c .psr v]

/-- `rd.TCR` (R127): elements remaining. -/
def progRdTcr (c : Chan) : List Micro := [readMicro c .tcr]

/-- `wr.TCR` (R128): bits 31:16 ignored, then the reload rule. -/
def progWrTcr (c : Chan) (v : Word) : List Micro := [writeMicro c .tcr v]

/-- `rd.MARR` (R129): the reload address. -/
def progRdMarr (c : Chan) : List Micro := [readMicro c .marr]

/-- `wr.MARR` (R130): no effect on `MAR`. -/
def progWrMarr (c : Chan) (v : Word) : List Micro := [writeMicro c .marr v]

/-- `rd.TCRR` (R131): the reload count. -/
def progRdTcrr (c : Chan) : List Micro := [readMicro c .tcrr]

/-- `wr.TCRR` (R132): bits 31:16 ignored, then the reload rule. -/
def progWrTcrr (c : Chan) (v : Word) : List Micro := [writeMicro c .tcrr v]

/-- `rd.CR` (R133): a write-only port, the word is a draw. -/
def progRdCr (c : Chan) : List Micro := [readMicro c .cr]

/-- `wr.CR` (R134): the commands `TEN`, `TDIS`, `ECLR`. -/
def progWrCr (c : Chan) (v : Word) : List Micro := [writeMicro c .cr v]

/-- `rd.MR` (R135): the mode. -/
def progRdMr (c : Chan) : List Micro := [readMicro c .mr]

/-- `wr.MR` (R136): `SIZE` only. -/
def progWrMr (c : Chan) (v : Word) : List Micro := [writeMicro c .mr v]

/-- `rd.SR` (R137): the transfer-enabled bit. -/
def progRdSr (c : Chan) : List Micro := [readMicro c .sr]

/-- `wr.SR` (R138): read-only, the write is ignored. -/
def progWrSr (c : Chan) (v : Word) : List Micro := [writeMicro c .sr v]

/-- `rd.IER` (R139): a write-only port, the word is a draw. -/
def progRdIer (c : Chan) : List Micro := [readMicro c .ier]

/-- `wr.IER` (R140): unmasks sources. -/
def progWrIer (c : Chan) (v : Word) : List Micro := [writeMicro c .ier v]

/-- `rd.IDR` (R141): a write-only port, the word is a draw. -/
def progRdIdr (c : Chan) : List Micro := [readMicro c .idr]

/-- `wr.IDR` (R142): masks sources, never clears `pend`. -/
def progWrIdr (c : Chan) (v : Word) : List Micro := [writeMicro c .idr v]

/-- `rd.IMR` (R143): the interrupt mask. -/
def progRdImr (c : Chan) : List Micro := [readMicro c .imr]

/-- `wr.IMR` (R144): read-only, the write is ignored. -/
def progWrImr (c : Chan) (v : Word) : List Micro := [writeMicro c .imr v]

/-- `rd.ISR` (R145): the interrupt status. -/
def progRdIsr (c : Chan) : List Micro := [readMicro c .isr]

/-- `wr.ISR` (R146): read-only, the write is ignored. -/
def progWrIsr (c : Chan) (v : Word) : List Micro := [writeMicro c .isr v]

/-- The meaning of `rd.MAR` (R123). -/
def execRdMar (c : Chan) (s : State) : Host.Outcome State Fault Refusal :=
  .next (runOp (.rdMar c) (progRdMar c) s)

/-- The meaning of `wr.MAR` (R124). -/
def execWrMar (c : Chan) (v : Word) (s : State) : Host.Outcome State Fault Refusal :=
  .next (runOp (.wrMar c v) (progWrMar c v) s)

/-- The meaning of `rd.PSR` (R125). -/
def execRdPsr (c : Chan) (s : State) : Host.Outcome State Fault Refusal :=
  .next (runOp (.rdPsr c) (progRdPsr c) s)

/-- The meaning of `wr.PSR` (R126). -/
def execWrPsr (c : Chan) (v : Word) (s : State) : Host.Outcome State Fault Refusal :=
  .next (runOp (.wrPsr c v) (progWrPsr c v) s)

/-- The meaning of `rd.TCR` (R127). -/
def execRdTcr (c : Chan) (s : State) : Host.Outcome State Fault Refusal :=
  .next (runOp (.rdTcr c) (progRdTcr c) s)

/-- The meaning of `wr.TCR` (R128). -/
def execWrTcr (c : Chan) (v : Word) (s : State) : Host.Outcome State Fault Refusal :=
  .next (runOp (.wrTcr c v) (progWrTcr c v) s)

/-- The meaning of `rd.MARR` (R129). -/
def execRdMarr (c : Chan) (s : State) : Host.Outcome State Fault Refusal :=
  .next (runOp (.rdMarr c) (progRdMarr c) s)

/-- The meaning of `wr.MARR` (R130). -/
def execWrMarr (c : Chan) (v : Word) (s : State) : Host.Outcome State Fault Refusal :=
  .next (runOp (.wrMarr c v) (progWrMarr c v) s)

/-- The meaning of `rd.TCRR` (R131). -/
def execRdTcrr (c : Chan) (s : State) : Host.Outcome State Fault Refusal :=
  .next (runOp (.rdTcrr c) (progRdTcrr c) s)

/-- The meaning of `wr.TCRR` (R132). -/
def execWrTcrr (c : Chan) (v : Word) (s : State) : Host.Outcome State Fault Refusal :=
  .next (runOp (.wrTcrr c v) (progWrTcrr c v) s)

/-- The meaning of `rd.CR` (R133). -/
def execRdCr (c : Chan) (s : State) : Host.Outcome State Fault Refusal :=
  .next (runOp (.rdCr c) (progRdCr c) s)

/-- The meaning of `wr.CR` (R134); the words of R105 are refused, clocked or not (log 31). -/
def execWrCr (c : Chan) (v : Word) (s : State) : Host.Outcome State Fault Refusal :=
  if crAdmitted v then .next (runOp (.wrCr c v) (progWrCr c v) s) else .refused .contradictoryCr

/-- The meaning of `rd.MR` (R135). -/
def execRdMr (c : Chan) (s : State) : Host.Outcome State Fault Refusal :=
  .next (runOp (.rdMr c) (progRdMr c) s)

/-- The meaning of `wr.MR` (R136); the words of R105 are refused, clocked or not (log 31). -/
def execWrMr (c : Chan) (v : Word) (s : State) : Host.Outcome State Fault Refusal :=
  if mrAdmitted v then .next (runOp (.wrMr c v) (progWrMr c v) s) else .refused .reservedMode

/-- The meaning of `rd.SR` (R137). -/
def execRdSr (c : Chan) (s : State) : Host.Outcome State Fault Refusal :=
  .next (runOp (.rdSr c) (progRdSr c) s)

/-- The meaning of `wr.SR` (R138). -/
def execWrSr (c : Chan) (v : Word) (s : State) : Host.Outcome State Fault Refusal :=
  .next (runOp (.wrSr c v) (progWrSr c v) s)

/-- The meaning of `rd.IER` (R139). -/
def execRdIer (c : Chan) (s : State) : Host.Outcome State Fault Refusal :=
  .next (runOp (.rdIer c) (progRdIer c) s)

/-- The meaning of `wr.IER` (R140). -/
def execWrIer (c : Chan) (v : Word) (s : State) : Host.Outcome State Fault Refusal :=
  .next (runOp (.wrIer c v) (progWrIer c v) s)

/-- The meaning of `rd.IDR` (R141). -/
def execRdIdr (c : Chan) (s : State) : Host.Outcome State Fault Refusal :=
  .next (runOp (.rdIdr c) (progRdIdr c) s)

/-- The meaning of `wr.IDR` (R142). -/
def execWrIdr (c : Chan) (v : Word) (s : State) : Host.Outcome State Fault Refusal :=
  .next (runOp (.wrIdr c v) (progWrIdr c v) s)

/-- The meaning of `rd.IMR` (R143). -/
def execRdImr (c : Chan) (s : State) : Host.Outcome State Fault Refusal :=
  .next (runOp (.rdImr c) (progRdImr c) s)

/-- The meaning of `wr.IMR` (R144). -/
def execWrImr (c : Chan) (v : Word) (s : State) : Host.Outcome State Fault Refusal :=
  .next (runOp (.wrImr c v) (progWrImr c v) s)

/-- The meaning of `rd.ISR` (R145). -/
def execRdIsr (c : Chan) (s : State) : Host.Outcome State Fault Refusal :=
  .next (runOp (.rdIsr c) (progRdIsr c) s)

/-- The meaning of `wr.ISR` (R146). -/
def execWrIsr (c : Chan) (v : Word) (s : State) : Host.Outcome State Fault Refusal :=
  .next (runOp (.wrIsr c v) (progWrIsr c v) s)

end Sys2Proof.Machine
end

