-- ==== Sys2Proof/Machine/Dispatch.lean ====
section
/-! DEFINITION. The dispatch: one arm per instruction, each one direct call of its meaning. -/

namespace Sys2Proof.Machine

def exec (i : Instr) (s : State) : Host.Outcome State Fault Refusal :=
  match i with
  | .rdMar c => Sys2Proof.Machine.execRdMar c s
  | .wrMar c v => Sys2Proof.Machine.execWrMar c v s
  | .rdPsr c => Sys2Proof.Machine.execRdPsr c s
  | .wrPsr c v => Sys2Proof.Machine.execWrPsr c v s
  | .rdTcr c => Sys2Proof.Machine.execRdTcr c s
  | .wrTcr c v => Sys2Proof.Machine.execWrTcr c v s
  | .rdMarr c => Sys2Proof.Machine.execRdMarr c s
  | .wrMarr c v => Sys2Proof.Machine.execWrMarr c v s
  | .rdTcrr c => Sys2Proof.Machine.execRdTcrr c s
  | .wrTcrr c v => Sys2Proof.Machine.execWrTcrr c v s
  | .rdCr c => Sys2Proof.Machine.execRdCr c s
  | .wrCr c v => Sys2Proof.Machine.execWrCr c v s
  | .rdMr c => Sys2Proof.Machine.execRdMr c s
  | .wrMr c v => Sys2Proof.Machine.execWrMr c v s
  | .rdSr c => Sys2Proof.Machine.execRdSr c s
  | .wrSr c v => Sys2Proof.Machine.execWrSr c v s
  | .rdIer c => Sys2Proof.Machine.execRdIer c s
  | .wrIer c v => Sys2Proof.Machine.execWrIer c v s
  | .rdIdr c => Sys2Proof.Machine.execRdIdr c s
  | .wrIdr c v => Sys2Proof.Machine.execWrIdr c v s
  | .rdImr c => Sys2Proof.Machine.execRdImr c s
  | .wrImr c v => Sys2Proof.Machine.execWrImr c v s
  | .rdIsr c => Sys2Proof.Machine.execRdIsr c s
  | .wrIsr c v => Sys2Proof.Machine.execWrIsr c v s
  | .new c => Sys2Proof.Machine.execNew c s
  | .init c k w => Sys2Proof.Machine.execInit c k w s
  | .enable c => Sys2Proof.Machine.execEnable c s
  | .disable c => Sys2Proof.Machine.execDisable c s
  | .isen c => Sys2Proof.Machine.execIsen c s
  | .prepare c p b r => Sys2Proof.Machine.execPrepare c p b r s
  | .start c => Sys2Proof.Machine.execStart c s
  | .xfer c p b r => Sys2Proof.Machine.execXfer c p b r s
  | .irq c => Sys2Proof.Machine.execIrq c s
  | .abort c => Sys2Proof.Machine.execAbort c s
  | .count c => Sys2Proof.Machine.execCount c s

end Sys2Proof.Machine
end

