-- ==== Sys2Proof/Machine/Mover.lean ====
section
/-! DEFINITION. The data mover of one channel: when it may step, the element move, the transfer error
(43_data_mover.md R201 to R205). -/

namespace Sys2Proof.Machine

/-- When `Mover[c]` may step, given the peripheral's readiness (R201; a mode without a meaning moves nothing, log 14). -/
def moverEnabled (s : State) (c : Chan) (ready : Bool) : Bool :=
  s.clkOk && (s.chan c).ten && (s.chan c).tcr != 0 && !(s.chan c).terr && validPid s.params (s.chan c).psr &&
  (modeWidth (s.chan c).mr).isSome && ready

/-- The channel after a move of `n` bytes: address up by `n` modulo 2^32, count down by one, the reload, the pending latch
(R202). -/
def channelMoved (n : Nat) (ch : Channel) : Channel :=
  ch.latch { ch with mar := ch.mar + BitVec.ofNat 32 n, tcr := ch.tcr - 1 }.normalise

/-- The channel after a refused access: only `terr`, and the pending latch if `TERR` is unmasked (R205, R221). -/
def channelError (ch : Channel) : Channel := ch.latch { ch with terr := true }

/-- The memory port refuses the access: it is logged and `terr` is latched (R205). -/
def refuseMove (c : Chan) (k : Access) (n : Nat) (s : State) : State :=
  (s.setChan c (channelError (s.chan c))).logMem ⟨c, k, (s.chan c).mar, n, none⟩

/-- One RX element: popped from the peripheral, written to memory (R202). -/
def moveRx (c : Chan) (n : Nat) (v : Word) (s : State) : State :=
  (((s.setMem (s.mem.writeLE (s.chan c).mar.toNat v.toNat n)).setChan c (channelMoved n (s.chan c))).logPer
    (.pop (s.chan c).psr n v)).logMem ⟨c, .write, (s.chan c).mar, n, some v⟩

/-- The element a TX move reads (R202, R64). -/
def txElement (s : State) (c : Chan) (n : Nat) : Word := BitVec.ofNat 32 (s.mem.readLE (s.chan c).mar.toNat n)

/-- One TX element: read from memory, pushed to the peripheral (R202). -/
def moveTx (c : Chan) (n : Nat) (s : State) : State :=
  ((s.setChan c (channelMoved n (s.chan c))).logMem ⟨c, .read, (s.chan c).mar, n, some (txElement s c n)⟩).logPer
    (.push (s.chan c).psr n (txElement s c n))

/-- The element move in a state where the mover is enabled (R202). -/
def moveElement (c : Chan) (n : Nat) (d : Direction) (elem : Word) (s : State) : State :=
  match d with
  | .rx => if admits s.params .write (s.chan c).mar n then moveRx c n (elemValue n elem) s else refuseMove c .write n s
  | .tx => if admits s.params .read (s.chan c).mar n then moveTx c n s else refuseMove c .read n s

/-- `Mover[c]` is chosen: one element move if it is enabled, nothing otherwise (R201, R202). -/
def moverStep (c : Chan) (ready : Bool) (elem : Word) (s : State) : State :=
  if moverEnabled s c ready then
    match modeWidth (s.chan c).mr, pidDir s.params (s.chan c).psr with
    | some w, some d => moveElement c (widthBytes w) d elem s
    | _, _ => s
  else s

end Sys2Proof.Machine
end

