-- ==== Sys2Proof/Machine/Agents.lean ====
section
/-! DEFINITION. The agents other than the movers: the two execution contexts micro-step by micro-step, the serializer's
dispatch and return, the host and the callback receiver (60_exceptions.md R250, R251; 44_interrupt_completion.md R222, R225,
R229; 70_reset_and_hazards.md R276). -/

namespace Sys2Proof.Machine

/-- The micro-steps of an operation, in the order of its rule. -/
def program (i : Instr) : List Micro :=
  match i with
  | .rdMar c => progRdMar c
  | .wrMar c v => progWrMar c v
  | .rdPsr c => progRdPsr c
  | .wrPsr c v => progWrPsr c v
  | .rdTcr c => progRdTcr c
  | .wrTcr c v => progWrTcr c v
  | .rdMarr c => progRdMarr c
  | .wrMarr c v => progWrMarr c v
  | .rdTcrr c => progRdTcrr c
  | .wrTcrr c v => progWrTcrr c v
  | .rdCr c => progRdCr c
  | .wrCr c v => progWrCr c v
  | .rdMr c => progRdMr c
  | .wrMr c v => progWrMr c v
  | .rdSr c => progRdSr c
  | .wrSr c v => progWrSr c v
  | .rdIer c => progRdIer c
  | .wrIer c v => progWrIer c v
  | .rdIdr c => progRdIdr c
  | .wrIdr c v => progWrIdr c v
  | .rdImr c => progRdImr c
  | .wrImr c v => progWrImr c v
  | .rdIsr c => progRdIsr c
  | .wrIsr c v => progWrIsr c v
  | .new c => progNew c
  | .init c k w => progInit c k w
  | .enable c => progEnable c
  | .disable c => progDisable c
  | .isen c => progIsen c
  | .prepare c p b r => progPrepare c p b r
  | .start c => progStart c
  | .xfer c p b r => progXfer c p b r
  | .irq c => progIrq c
  | .abort c => progAbort c
  | .count c => progCount c

/-- The next micro-step of the operation at a position: the state after it and the position after it, none when the
operation is over (its response then stands in `resp_log`) (R44, R240). -/
def stepFrame (f : Frame) (s : State) : State × Option Frame :=
  match (program f.op)[f.idx]? with
  | none => (complete f.op (some respOk) s, none)
  | some m =>
    match m f.loc s with
    | (t, .done r) => (complete f.op r t, none)
    | (t, .go l) =>
      if f.idx + 1 < (program f.op).length then (t, some ⟨f.op, f.idx + 1, l⟩)
      else (complete f.op (some respOk) t, none)

/-- The next micro-step of a context: of the reaction it is running, if any, else of its own operation; `done` is where the
context stands when its own operation is over. -/
def stepContext (done : Context) (x : Context) (s : State) : State × Context :=
  match x with
  | .idle => (s, .idle)
  | .returning => (s, .returning)
  | .running f (some g) => ((stepFrame g s).1, .running f (stepFrame g s).2)
  | .running f none =>
    match stepFrame f s with
    | (t, some f') => (t, .running f' none)
    | (t, none) => (t, done)

/-- Whether the normal context may accept a command: it is idle and not suspended by a handler (R250, R251). -/
def normalReady (s : State) : Bool := s.active == none && s.ctxN == .idle

/-- A command accepted by the normal context, run with no other agent's step in between (R250; log 3). -/
def runCommand (r : Request) (s : State) : Host.Outcome State Fault Refusal :=
  if normalReady s then
    match decode s.params r with
    | .error e => .refused (.notAnInstruction e)
    | .ok i => exec i s
  else .fault .contextBusy

/-- A command accepted by the normal context, which stands before its first micro-step (R250). -/
def acceptCommand (r : Request) (s : State) : Host.Outcome State Fault Refusal :=
  if normalReady s then
    match decode s.params r with
    | .error e => .refused (.notAnInstruction e)
    | .ok i => .next { s with ctxN := .running (Frame.start i) none }
  else .fault .contextBusy

/-- The normal context's next micro-step; it makes none while a handler is active (R222, R250). -/
def normalStep (s : State) : State :=
  match s.active with
  | some _ => s
  | none => { (stepContext .idle s.ctxN s).1 with ctxN := (stepContext .idle s.ctxN s).2 }

/-- The serializer dispatches `c` if it may (R222). -/
def dispatchStep (c : Chan) (s : State) : State := if dispatchEnabled s c then takeInterrupt c s else s

/-- The interrupt context's next micro-step, or the return from the handler (R225, R250). -/
def interruptStep (s : State) : State :=
  match s.active with
  | none => s
  | some _ =>
    match s.ctxI with
    | .returning => returnFromInterrupt s
    | .idle | .running _ _ => { (stepContext .returning s.ctxI s).1 with ctxI := (stepContext .returning s.ctxI s).2 }

/-- The context whose code is running: the interrupt context while a handler is active, else the normal one (R250). So the
reaction to an `irq` that a harness issued runs in the normal context, where R226 (e) has the handler's own micro-steps run,
and not in the interrupt context of R229 (log 33, DESIGN CHOICE). -/
def runningContext (s : State) : Context := if s.active.isSome then s.ctxI else s.ctxN

/-- Putting the running context at a position. -/
def setRunningContext (x : Context) (s : State) : State :=
  if s.active.isSome then { s with ctxI := x } else { s with ctxN := x }

/-- The receiver of `transfer_done` issues one operation of its reaction, any but `irq` (R229, R276; log 19). It runs in the
context whose handler emitted the event; where that is the normal context, `active` is `None` and a dispatch may fall between
its micro-steps (log 33, DESIGN CHOICE). -/
def reactStep (r : Request) (s : State) : Host.Outcome State Fault Refusal :=
  match runningContext s with
  | .idle | .returning => .fault .reactionOutsideCallback
  | .running _ (some _) => .fault .contextBusy
  | .running f none =>
    if f.loc.emitted then
      match decode s.params r with
      | .error e => .refused (.notAnInstruction e)
      | .ok (.irq _) => .fault .irqInReaction
      | .ok i => .next (setRunningContext (.running f (some (Frame.start i))) s)
    else .fault .reactionOutsideCallback

/-- Whether a buffer holds the byte at an address (R39, R72); addresses count modulo 2^32 (R70). -/
def Buffer.holds (b : Buffer) (a : Word) : Bool := decide ((a - b.addr).toNat < b.blen.toNat)

/-- The operations in progress in a context: its own, and the one of the reaction it is running (R44, R229). -/
def Context.frames (x : Context) : List Frame :=
  match x with
  | .idle | .returning => []
  | .running f none => [f]
  | .running f (some g) => [f, g]

/-- The operations in progress in either context. -/
def State.frames (s : State) : List Frame := s.ctxN.frames ++ s.ctxI.frames

/-- Whether a position lies after the first micro-step of `prepare_transfer` (its guards, passed) and before its last, which
fills the slot: the part of the ownership interval that the slot does not show yet (R72, R180, C13). -/
def fillPending (idx : Nat) : Bool := decide (1 ≤ idx) && decide (idx ≤ 6)

/-- The buffer that a `prepare` or `xfer` in progress owns before it stands in the slot (R72). -/
def takenBuffer (f : Frame) : Option Buffer :=
  match f.op with
  | .prepare _ _ b _ | .xfer _ _ b _ => if fillPending f.idx then some b else none
  | _ => none

/-- Whether a byte is owned by a channel: from the first micro-step of the `prepare` that fills the slot until the micro-step
of the `abort` that empties it (R72, R290, C13). -/
def owned (s : State) (a : Word) : Bool :=
  (List.finRange 16).any (fun c => ((s.chan c).slot.map fun b => Buffer.holds b a).getD false) ||
  s.frames.any (fun f => ((takenBuffer f).map fun b => Buffer.holds b a).getD false)

/-- Whether code of the host is running between operations: the idle normal context, or a receiver of `transfer_done`
(R250, R276). -/
def hostRuns (s : State) : Bool :=
  match runningContext s with
  | .idle => s.active == none
  | .running f none => f.loc.emitted
  | .running _ (some _) | .returning => false

/-- Whether the platform allocates a byte as system memory, whatever the port admits of it (R60, R66; log 9). -/
def allocated (P : Params) (a : Nat) : Bool :=
  !inRegSpace P a && P.regions.any fun g => decide (g.base ≤ a) && decide (a < g.base + g.size)

/-- The host accesses one byte of system memory, between its operations: the access takes its place in the total order of
R72 whoever owns the byte, and one to an owned byte is recorded as a race (R72, R276, U20; log 18). -/
def hostAccess (k : Access) (a : Word) (b : Byte) (f : State → State) (s : State) : Host.Outcome State Fault Refusal :=
  if hostRuns s then
    if allocated s.params a.toNat then .next ((f s).logHost ⟨k, a, b, owned s a⟩) else .fault .outsideMemory
  else .fault .contextBusy

/-- The host reads one byte: the value of the latest earlier write (R72, R276; log 18). -/
def hostLoad (a : Word) (s : State) : Host.Outcome State Fault Refusal :=
  hostAccess .read a (s.mem.readByte a.toNat) id s

/-- The host writes one byte (R72, R276; log 18). -/
def hostStore (a : Word) (b : Byte) (s : State) : Host.Outcome State Fault Refusal :=
  hostAccess .write a b (fun s => s.setMem (s.mem.writeByte a.toNat b)) s

/-- The reset event (R270): parameters, memory and the inputs to come are the environment's and stay (log 22). -/
def resetStep (s : State) : State := State.resetOf s.params s.mem s.draws s.inputs

end Sys2Proof.Machine
end

