-- ==== Sys2Proof/Machine/Step.lean ====
section
/-! DEFINITION. One step: the next input of the tape drives one agent (60_exceptions.md R250, R251; log 1). -/

namespace Sys2Proof.Machine

/-- The state in which the next input has been taken off the tape. -/
def State.popInput (s : State) (t : List Input) : State := { s with inputs := t }

/-- One step of the machine. With no input to come the block waits (R270). -/
def step (s : State) : Host.Outcome State Fault Refusal :=
  match s.inputs with
  | [] => .next s
  | .command r :: t => runCommand r (s.popInput t)
  | .accept r :: t => acceptCommand r (s.popInput t)
  | .normal :: t => .next (normalStep (s.popInput t))
  | .dispatch c :: t => .next (dispatchStep c (s.popInput t))
  | .interrupt :: t => .next (interruptStep (s.popInput t))
  | .mover c ready elem :: t => .next (moverStep c ready elem (s.popInput t))
  | .react r :: t => reactStep r (s.popInput t)
  | .hostRead a :: t => hostLoad a (s.popInput t)
  | .hostWrite a b :: t => hostStore a b (s.popInput t)
  | .reset :: t => .next (resetStep (s.popInput t))

/-- The host issues the request of a table row's bits as its next command (log 2, log 21). Issuing one needs the normal
context idle and no handler active, so these are set. -/
def State.withFetchWord (s : State) (nbits w : Nat) : State :=
  { s with active := none, ctxN := .idle, ctxI := .idle, inputs := .command (tableRequest nbits w) :: s.inputs }

end Sys2Proof.Machine
end

