-- ==== Sys2Proof/Safety.lean ====
section
/-! DEFINITION. The predicates claims are stated in: the invariants of 10_state.md R46, runs without a recorded fault
(60_exceptions.md R240), legal positions of the two contexts, and what it means that an operation leaves everything outside
one channel alone. Each but `sameOutside` is a decidable proposition. -/

namespace Sys2Proof.Machine

/-- INV5: no reload count waits while the live count is 0 (R46). -/
abbrev Channel.settled (ch : Channel) : Prop := ch.tcr = 0 → ch.tcrr = 0

/-- INV6: `RING = 0`, `ETRIG = 0`, `SIZE` is not 3 (R46). -/
abbrev Channel.modeLegal (ch : Channel) : Prop := ch.mr = 0 ∨ ch.mr = 1 ∨ ch.mr = 2

/-- INV3: `fsm` is `Disabled` exactly when the flag is false (R46). -/
abbrev Channel.flagMatchesFsm (ch : Channel) : Prop := ch.fsm = .disabled ↔ ch.en = false

/-- INV4: a `Configured` or `Running` channel holds a buffer (R46). -/
abbrev Channel.slotMatchesFsm (ch : Channel) : Prop := ch.fsm = .configured ∨ ch.fsm = .running → ch.slot ≠ none

/-- INV7: only `TRC` is ever unmasked (R46; a raw `wr.IER` of a harness can break it). -/
abbrev Channel.maskLegal (ch : Channel) : Prop := ch.imr = 0b000 ∨ ch.imr = 0b010

/-- The invariants of R46 that every step of every agent keeps, on one channel. -/
abbrev Channel.inv (ch : Channel) : Prop :=
  ch.settled ∧ ch.modeLegal ∧ ch.flagMatchesFsm ∧ ch.slotMatchesFsm

/-- A handler is active exactly when the interrupt context is not idle (R43, R44). -/
abbrev State.contextsMatch (s : State) : Prop := s.active = none ↔ s.ctxI = .idle

/-- What every step keeps: memory in canonical form, the contexts matching, and the channel invariants (R46). -/
abbrev State.inv (s : State) : Prop :=
  s.mem.wf = true ∧ s.contextsMatch ∧ ∀ c : Chan, (s.chan c).inv

/-- The number of channels whose software-mirrored flag is true (R41). -/
def State.enabledCount (s : State) : Nat := (List.finRange 16).countP fun c => (s.chan c).en

/-- INV1 and INV8: the counter equals the number of enabled channels, and the block is clocked while it is not 0 (R46). -/
abbrev State.counterInv (s : State) : Prop :=
  s.numEnabled.toNat = s.enabledCount ∧ (s.numEnabled ≠ 0 → s.clkOk = true)

/-- No operation has recorded a fault (R240). -/
abbrev State.noFault (s : State) : Prop := ∀ e ∈ s.respLog, e.resp.status = .ok

/-- The channel an instruction acts on. -/
def instrChan (i : Instr) : Chan :=
  match i with
  | .rdMar c | .wrMar c _ | .rdPsr c | .wrPsr c _ | .rdTcr c | .wrTcr c _ | .rdMarr c | .wrMarr c _ | .rdTcrr c
  | .wrTcrr c _ | .rdCr c | .wrCr c _ | .rdMr c | .wrMr c _ | .rdSr c | .wrSr c _ | .rdIer c | .wrIer c _ | .rdIdr c
  | .wrIdr c _ | .rdImr c | .wrImr c _ | .rdIsr c | .wrIsr c _ | .new c | .init c _ _ | .enable c | .disable c
  | .isen c | .prepare c _ _ _ | .start c | .xfer c _ _ _ | .irq c | .abort c | .count c => c

/-- A raw register access, as a harness issues it (R276). -/
def isRegisterAccess (i : Instr) : Bool :=
  match i with
  | .rdMar _ | .wrMar _ _ | .rdPsr _ | .wrPsr _ _ | .rdTcr _ | .wrTcr _ _ | .rdMarr _ | .wrMarr _ _ | .rdTcrr _
  | .wrTcrr _ _ | .rdCr _ | .wrCr _ _ | .rdMr _ | .wrMr _ _ | .rdSr _ | .wrSr _ _ | .rdIer _ | .wrIer _ _ | .rdIdr _
  | .wrIdr _ _ | .rdImr _ | .wrImr _ _ | .rdIsr _ | .wrIsr _ _ => true
  | .new _ | .init _ _ _ | .enable _ | .disable _ | .isen _ | .prepare _ _ _ _ | .start _ | .xfer _ _ _ _ | .irq _
  | .abort _ | .count _ => false

/-- Two channels with the same engine-side state (R36 to R40). -/
abbrev sameEngine (x y : Channel) : Prop :=
  x.cb = y.cb ∧ x.width = y.width ∧ x.en = y.en ∧ x.slot = y.slot ∧ x.fsm = y.fsm

/-- No access of the host was a race: the host kept the ownership rule (R72, R276). -/
abbrev State.noRace (s : State) : Prop := ∀ e ∈ s.hostLog, e.race = false

/-- What no instruction touches: parameters, both contexts and the active handler, the inputs to come, the mover's, the
peripherals' and the host's logs, and every byte of memory. -/
abbrev sameOutside (s t : State) : Prop :=
  t.params = s.params ∧ t.active = s.active ∧ t.ctxN = s.ctxN ∧ t.ctxI = s.ctxI ∧ t.inputs = s.inputs ∧
  t.memLog = s.memLog ∧ t.perLog = s.perLog ∧ t.hostLog = s.hostLog ∧ ∀ a, t.mem.readByte a = s.mem.readByte a

/-- The instruction is `enable` or `disable`, which write the flag and the shared counter in different micro-steps (R167). -/
def countsChannels (i : Instr) : Bool :=
  match i with
  | .enable _ | .disable _ => true
  | _ => false

/-- No `enable` and no `disable` is in progress in either context; any other operation may be (R167). -/
def State.noCountInProgress (s : State) : Bool := s.frames.all fun f => !countsChannels f.op

/-- The input starts an `enable` or a `disable` that other agents may interleave with: `accept` or `react` of its request,
under parameters `P` (R167, R229, R250). -/
def Input.opensCount (P : Params) (x : Input) : Bool :=
  match x with
  | .accept q | .react q =>
    match decode P q with
    | .ok i => countsChannels i
    | .error _ => false
  | .command _ | .normal | .dispatch _ | .interrupt | .mover _ _ _ | .hostRead _ | .hostWrite _ _ | .reset => false

/-- The input drives one micro-step of one agent (R12, R250): not a command run whole, and not the reset event. -/
def Input.isMicroStep (x : Input) : Bool :=
  match x with
  | .command _ | .reset => false
  | .accept _ | .normal | .dispatch _ | .interrupt | .mover _ _ _ | .react _ | .hostRead _ | .hostWrite _ _ => true

/-- The state with both clocks on. -/
def State.clocked (s : State) : State := { s with clk0 := true, clk1 := true }

end Sys2Proof.Machine
end

