-- ==== Sys2Proof/Certificates/Slice0/Obligations.lean ====
section
/-! DEFINITION. The statements for the provers, one `def Obligations.<Name> : Prop` each. `clkOk` is R42's `clk_ok`;
`settled` is INV5 of R46, which every step keeps (`StepKeepsInvariant`) and reset meets (`ResetMeetsInvariant`). A result is
given as the whole next state, so it says what stays as well: `setChan c` replaces channel `c` and nothing else, each `log…`
appends to one log and changes nothing else. `busLog`, the register traffic, and `draws` are the model's own fields (logs 11
and 5): what a statement says of them is the model's, not a rule's. An input at the head of `inputs` is how the model lets an
agent step (log 1, DESIGN CHOICE): every statement about `step` rests on it and is 'derived'. Register
addresses and bit positions are those of R91 and R92, which the model fixes though R8 lets them be a parameter (log 35, DESIGN
CHOICE). -/

open Sys2Proof Sys2Proof.Machine

/-! ## Encoding -/

/-- R93, R100: for every legal choice of parameters, decoding the encoding of a well-formed instruction gives it back. -/
def Obligations.DecodeOfEncodeIsIdentity : Prop :=
  ∀ (P : Params) (i : Instr), P.wf = true → i.wellFormed P = true → decode P (encode P i) = .ok i

/-- R100, R105: a request that decodes is the encoding of the instruction it decodes to, which is well-formed; so no two
requests decode to one instruction and no reserved encoding falls through to a neighbour. -/
def Obligations.DecodedRequestsReencode : Prop :=
  ∀ (P : Params) (q : Request) (i : Instr), P.wf = true → decode P q = .ok i → encode P i = q ∧ i.wellFormed P = true

/-- The example words of 30_encoding.md R108 and of 95_test_vectors.md P1, P2, P8, under the suggested parameters (PRESUMED,
log 4). -/
def Obligations.SpecExampleWordsDecode : Prop :=
  decode Config.suggested (.cmd 0x00000040000000402000010000001605) = .ok (.prepare 0 22 ⟨0x20000100, 64⟩ 64) ∧
  decode Config.suggested (.reg 0x1400A20E4 (some 7) 32) = .ok (.wrIdr 3 7) ∧
  decode Config.suggested (.cmd 0x00000000000000000000000700020031) = .ok (.init 3 7 .word) ∧
  decode Config.suggested (.cmd 0x00000064000000282000020000000037) = .ok (.xfer 3 0 ⟨0x20000200, 40⟩ 100) ∧
  decode Config.suggested (.reg 0x0400A23EC none 32) = .ok (.rdIsr 15) ∧
  decode Config.suggested (.reg 0x1400A2110 (some 3) 32) = .ok (.wrTcrr 4 3) ∧
  decode Config.suggested (.cmd 0x0000000000000000000000000000003A) = .ok (.count 3)

/-- R105: every row of its table that can be written down is refused: reserved opcodes, unused fields of each operation, width
3, codes outside the table, other access sizes, addresses and offsets without a register, the refused words of `CR` and `MR`;
and a refused command changes nothing, the run is marked refused. That a header with a missing or a surplus data word is
refused too is log 26 (DESIGN CHOICE); the name reported, and which name where several reasons meet, is log 27 (DESIGN
CHOICE). -/
def Obligations.ReservedEncodingsAreRefused : Prop :=
  (∀ (P : Params) (x : BitVec 128), 11 ≤ (x.extractLsb' 0 4).toNat → decode P (.cmd x) = .error .reservedOpcode) ∧
  (∀ (P : Params) (x : BitVec 128), x.extractLsb' 0 4 = 1 → x.extractLsb' 8 8 = 0 → x.extractLsb' 16 2 = 3 →
    x.extractLsb' 18 14 = 0 → x.extractLsb' 64 64 = 0 → decode P (.cmd x) = .error .reservedWidth) ∧
  (∀ (P : Params) (x : BitVec 128), x.extractLsb' 0 4 = 5 ∨ x.extractLsb' 0 4 = 7 → x.extractLsb' 16 16 = 0 →
    validPid P (x.extractLsb' 8 8) = false → decode P (.cmd x) = .error .notAPeripheral) ∧
  (∀ (P : Params) (x : BitVec 128), (x.extractLsb' 0 4).toNat < 11 → x.extractLsb' 18 14 ≠ 0 →
    decode P (.cmd x) = .error .unusedField) ∧
  (∀ (P : Params) (x : BitVec 128), (x.extractLsb' 0 4).toNat < 11 → x.extractLsb' 0 4 ≠ 1 → x.extractLsb' 0 4 ≠ 5 →
    x.extractLsb' 0 4 ≠ 7 → x.extractLsb' 8 120 ≠ 0 → decode P (.cmd x) = .error .unusedField) ∧
  (∀ (P : Params) (x : BitVec 128), x.extractLsb' 0 4 = 1 → x.extractLsb' 8 8 ≠ 0 ∨ x.extractLsb' 64 64 ≠ 0 →
    decode P (.cmd x) = .error .unusedField) ∧
  (∀ (P : Params) (x : BitVec 128), x.extractLsb' 0 4 = 5 ∨ x.extractLsb' 0 4 = 7 → x.extractLsb' 16 2 ≠ 0 →
    decode P (.cmd x) = .error .unusedField) ∧
  (∀ (P : Params) (h : BitVec 33) (d : Option Word) (n : Nat), n ≠ 32 → decode P (.reg h d n) = .error .accessSize) ∧
  (∀ (P : Params) (h : BitVec 33) (d : Option Word), inRegSpace P (h.setWidth 32 : Word).toNat = false →
    decode P (.reg h d 32) = .error .outsideBlock) ∧
  (∀ (P : Params) (h : BitVec 33) (d : Option Word), P.wf = true → inRegSpace P (h.setWidth 32 : Word).toNat = true →
    (0x30 ≤ ((h.setWidth 32 : Word).toNat - P.dmaBase.toNat) % P.stride ∨ (h.setWidth 32 : Word).toNat % 4 ≠ 0) →
    decode P (.reg h d 32) = .error .noRegister) ∧
  (∀ (P : Params) (c : Chan) (r : Reg) (v : Word), P.wf = true →
    decode P (.reg (BitVec.ofBool true ++ Machine.regAddr P c r) none 32) = .error .dataWord ∧
    decode P (.reg (BitVec.ofBool false ++ Machine.regAddr P c r) (some v) 32) = .error .dataWord) ∧
  (∀ (P : Params) (c : Chan) (v : Word), P.wf = true → v.getLsbD 0 = true → v.getLsbD 1 = true →
    decode P (.reg (BitVec.ofBool true ++ Machine.regAddr P c .cr) (some v) 32) = .error .contradictoryCr) ∧
  (∀ (P : Params) (c : Chan) (v : Word), P.wf = true →
    v.getLsbD 3 = true ∨ v.getLsbD 2 = true ∨ v.setWidth 2 = (3 : BitVec 2) →
    decode P (.reg (BitVec.ofBool true ++ Machine.regAddr P c .mr) (some v) 32) = .error .reservedMode) ∧
  (∀ (s : State) (q : Request) (e : Reject) (t : List Input), s.inputs = .command q :: t → normalReady s = true →
    decode s.params q = .error e → step s = .refused (.notAnInstruction e))

/-- R104: the RESP word of the four faults and of an answer carries the status in bits 3:0 and nothing else but the values. -/
def Obligations.RespWordLayout : Prop :=
  (∀ r : Resp, (respWord r).extractLsb' 0 4 = r.status.code ∧ (respWord r).extractLsb' 4 1 = BitVec.ofBool r.present ∧
    (respWord r).extractLsb' 5 27 = 0 ∧ (respWord r).extractLsb' 32 32 = r.v0 ∧ (respWord r).extractLsb' 64 32 = r.v1) ∧
  Status.code .ok = 0 ∧ Status.code .slotOccupied = 1 ∧ Status.code .notInitialized = 2 ∧
  Status.code .badPeripheralCode = 3 ∧ Status.code .counterUnderflow = 4

/-! ## Which instructions complete -/

/-- R245: every admitted operation has a defined outcome in every state; the forms R105 refuses are refused by name. -/
def Obligations.WellFormedInstructionsComplete : Prop :=
  ∀ (i : Instr) (s : State),
    (i.wellFormed s.params = true → ∃ t, exec i s = .next t) ∧
    (i.wellFormed s.params = false →
      (∃ c v, i = .wrCr c v ∧ exec i s = .refused .contradictoryCr) ∨
      (∃ c v, i = .wrMr c v ∧ exec i s = .refused .reservedMode) ∨
      (∃ c p b r, (i = .prepare c p b r ∨ i = .xfer c p b r) ∧ exec i s = .refused .notAPeripheral))

/-! ## Register primitives -/

/-- R123, R125, R127, R129, R131, R135, R137, R143, R145: what each readable register returns on a clocked block, reserved
bits 0; nothing changes but the register traffic the model keeps (log 11). -/
def Obligations.RegisterReadsReturnTheirValues : Prop :=
  ∀ (s : State) (c : Chan), s.clkOk = true →
    exec (.rdMar c) s = .next (s.logBus (.rd c .mar (s.chan c).mar)) ∧
    exec (.rdPsr c) s = .next (s.logBus (.rd c .psr ((s.chan c).psr.setWidth 32))) ∧
    exec (.rdTcr c) s = .next (s.logBus (.rd c .tcr ((s.chan c).tcr.setWidth 32))) ∧
    exec (.rdMarr c) s = .next (s.logBus (.rd c .marr (s.chan c).marr)) ∧
    exec (.rdTcrr c) s = .next (s.logBus (.rd c .tcrr ((s.chan c).tcrr.setWidth 32))) ∧
    exec (.rdMr c) s = .next (s.logBus (.rd c .mr ((s.chan c).mr.setWidth 32))) ∧
    exec (.rdSr c) s = .next (s.logBus (.rd c .sr (if (s.chan c).ten then 1 else 0))) ∧
    exec (.rdImr c) s = .next (s.logBus (.rd c .imr ((s.chan c).imr.setWidth 32))) ∧
    exec (.rdIsr c) s = .next (s.logBus (.rd c .isr
      ((if (s.chan c).terr then 4 else 0) + (if (s.chan c).tcr = 0 ∧ (s.chan c).tcrr = 0 then 2 else 0) +
        (if (s.chan c).tcrr = 0 then 1 else 0))))

/-- R133, R139, R141: a read of a write-only port returns some word (a draw, a free value) and changes nothing of the block. -/
def Obligations.WriteOnlyReadsReturnADraw : Prop :=
  ∀ (s : State) (c : Chan),
    (∃ v, exec (.rdCr c) s = .next (s.nextDraw.logBus (.rd c .cr v))) ∧
    (∃ v, exec (.rdIer c) s = .next (s.nextDraw.logBus (.rd c .ier v))) ∧
    (∃ v, exec (.rdIdr c) s = .next (s.nextDraw.logBus (.rd c .idr v)))

/-- R124, R126, R130: writes of `MAR`, `PSR` and `MARR` store their bits and nothing else. -/
def Obligations.AddressAndSelectWrites : Prop :=
  ∀ (s : State) (c : Chan) (v : Word), s.clkOk = true → (s.chan c).settled →
    exec (.wrMar c v) s = .next ((s.setChan c { s.chan c with mar := v }).logBus (.wr c .mar v)) ∧
    exec (.wrPsr c v) s = .next ((s.setChan c { s.chan c with psr := v.setWidth 8 }).logBus (.wr c .psr v)) ∧
    exec (.wrMarr c v) s = .next ((s.setChan c { s.chan c with marr := v }).logBus (.wr c .marr v))

/-- R128: a write of `TCR` stores bits 15:0; a 0 with a count queued reloads instead; a rising line sets `pend` (R221). -/
def Obligations.CounterWriteStopsOrReloads : Prop :=
  ∀ (s : State) (c : Chan) (v : Word) (n : Channel), s.clkOk = true →
    n = (if v.setWidth 16 = (0 : BitVec 16) ∧ (s.chan c).tcrr ≠ 0
      then { s.chan c with mar := (s.chan c).marr, tcr := (s.chan c).tcrr, tcrr := 0 }
      else { s.chan c with tcr := v.setWidth 16 }) →
    exec (.wrTcr c v) s = .next ((s.setChan c { n with pend := (s.chan c).pend || (!(s.chan c).line && n.line) }).logBus
      (.wr c .tcr v))

/-- R132: a write of `TCRR` loads address and count at once on an idle channel, and waits behind a live count. -/
def Obligations.ReloadWriteLoadsOrQueues : Prop :=
  ∀ (s : State) (c : Chan) (v : Word) (n : Channel), s.clkOk = true →
    n = (if (s.chan c).tcr = 0 ∧ v.setWidth 16 ≠ (0 : BitVec 16)
      then { s.chan c with mar := (s.chan c).marr, tcr := v.setWidth 16, tcrr := 0 }
      else { s.chan c with tcrr := v.setWidth 16 }) →
    exec (.wrTcrr c v) s = .next ((s.setChan c { n with pend := (s.chan c).pend || (!(s.chan c).line && n.line) }).logBus
      (.wr c .tcrr v))

/-- R134: the commands of `CR`. `TEN` with `TDIS` is refused (R105), and refused on an unclocked block as well: that reading
is the model's (log 31, DEDUCED). -/
def Obligations.ControlWriteCommands : Prop :=
  ∀ (s : State) (c : Chan) (v : Word),
    (v.getLsbD 0 = true ∧ v.getLsbD 1 = true → exec (.wrCr c v) s = .refused .contradictoryCr) ∧
    (¬(v.getLsbD 0 = true ∧ v.getLsbD 1 = true) → s.clkOk = true → (s.chan c).settled →
      exec (.wrCr c v) s = .next ((s.setChan c { s.chan c with
        ten := if v.getLsbD 0 then true else if v.getLsbD 1 then false else (s.chan c).ten,
        terr := (s.chan c).terr && !v.getLsbD 8 }).logBus (.wr c .cr v)))

/-- R136: `wr.MR` selects the size. `RING`, `ETRIG` or size 3 is refused (R105), and refused on an unclocked block as well:
that reading is the model's (log 31, DEDUCED). -/
def Obligations.ModeWriteSelectsSize : Prop :=
  ∀ (s : State) (c : Chan) (v : Word),
    (v.getLsbD 3 = true ∨ v.getLsbD 2 = true ∨ v.setWidth 2 = (3 : BitVec 2) →
      exec (.wrMr c v) s = .refused .reservedMode) ∧
    (v.getLsbD 3 = false → v.getLsbD 2 = false → v.setWidth 2 ≠ (3 : BitVec 2) → s.clkOk = true → (s.chan c).settled →
      exec (.wrMr c v) s = .next ((s.setChan c { s.chan c with mr := v.setWidth 4 }).logBus (.wr c .mr v)))

/-- R140: `wr.IER` unmasks; unmasking a source whose condition holds raises the line and sets `pend` at once. -/
def Obligations.InterruptEnableUnmasks : Prop :=
  ∀ (s : State) (c : Chan) (v : Word) (n : Channel), s.clkOk = true → (s.chan c).settled →
    n = { s.chan c with imr := (s.chan c).imr ||| v.setWidth 3 } →
    exec (.wrIer c v) s = .next ((s.setChan c { n with pend := (s.chan c).pend || (!(s.chan c).line && n.line) }).logBus
      (.wr c .ier v))

/-- R142: `wr.IDR` masks and never touches `pend`. -/
def Obligations.InterruptDisableMasks : Prop :=
  ∀ (s : State) (c : Chan) (v : Word), s.clkOk = true → (s.chan c).settled →
    exec (.wrIdr c v) s = .next ((s.setChan c { s.chan c with imr := (s.chan c).imr &&& ~~~(v.setWidth 3) }).logBus
      (.wr c .idr v))

/-- R138, R144, R146: writes of `SR`, `IMR` and `ISR` are ignored, clocked or not (a block that is not clocked may consume a
draw). -/
def Obligations.ReadOnlyWritesAreIgnored : Prop :=
  ∀ (s : State) (c : Chan) (v : Word), ∃ d, (s.clkOk = true → d = s.draws) ∧
    exec (.wrSr c v) s = .next ({ s with draws := d }.logBus (.wr c .sr v)) ∧
    exec (.wrImr c v) s = .next ({ s with draws := d }.logBus (.wr c .imr v)) ∧
    exec (.wrIsr c v) s = .next ({ s with draws := d }.logBus (.wr c .isr v))

/-- R121: register accesses on a block that is not clocked, for each value of `CLKOFF_ACCESS`. "Performed exactly as its rule
says" is: the channels come out as on the same block with its clocks on. -/
def Obligations.UnclockedAccessFollowsParameter : Prop :=
  (∀ (s : State) (c : Chan) (r : Reg) (v : Word) (i : Instr), s.clkOk = false → writeInstr r c v = .ok i →
    ∃ t u, exec i s = .next t ∧ exec i s.clocked = .next u ∧ t.busLog = s.busLog ++ [.wr c r v] ∧
      (s.params.clkOff = .lands → t.chans = u.chans) ∧
      (s.params.clkOff = .dropped → t.chans = s.chans) ∧
      (s.params.clkOff = .draw → t.chans = u.chans ∨ t.chans = s.chans)) ∧
  (∀ (s : State) (c : Chan) (r : Reg), s.clkOk = false →
    ∃ t u v, exec (readInstr r c) s = .next t ∧ exec (readInstr r c) s.clocked = .next u ∧ t.chans = s.chans ∧
      t.busLog = s.busLog ++ [.rd c r v] ∧ (s.params.clkOff = .lands → u.busLog = t.busLog))

/-- R120: a register access changes nothing on the engine's side, no clock, no counter, and records no response. -/
def Obligations.RegisterAccessKeepsEngineState : Prop :=
  ∀ (i : Instr) (s t : State), isRegisterAccess i = true → exec i s = .next t →
    (∀ d, sameEngine (t.chan d) (s.chan d)) ∧ t.numEnabled = s.numEnabled ∧ t.clk0 = s.clk0 ∧ t.clk1 = s.clk1 ∧
      t.clkLog = s.clkLog ∧ t.cbLog = s.cbLog ∧ t.respLog = s.respLog

/-- R220: the line is the OR over the three sources of mask and status, and status is as R33 computes it. -/
def Obligations.LineIsUnmaskedStatus : Prop :=
  ∀ ch : Channel, ch.line =
    ((ch.imr.getLsbD 0 && decide (ch.tcrr = 0)) || (ch.imr.getLsbD 1 && decide (ch.tcr = 0 ∧ ch.tcrr = 0)) ||
      (ch.imr.getLsbD 2 && ch.terr))

/-! ## Lifecycle operations -/

/-- R162, R166: `new` answers the channel's register base and `is_enabled` the software flag; neither changes anything. -/
def Obligations.PureQueriesAnswer : Prop :=
  ∀ (s : State) (c : Chan),
    exec (.new c) s = .next (s.logResp
      ⟨.new c, ⟨.ok, false, BitVec.ofNat 32 (s.params.dmaBase.toNat + c.val * s.params.stride), 0⟩⟩) ∧
    ((s.chan c).en = true → exec (.isen c) s = .next (s.logResp ⟨.isen c, ⟨.ok, false, 1, 0⟩⟩)) ∧
    ((s.chan c).en = false → exec (.isen c) s = .next (s.logResp ⟨.isen c, ⟨.ok, false, 0, 0⟩⟩))

/-- R163: `initialize` stores callback and width, whatever the channel's state, and touches no register. -/
def Obligations.InitializeStoresCallbackAndWidth : Prop :=
  ∀ (s : State) (c : Chan) (k : Word) (w : Width), exec (.init c k w) s =
    .next ((s.setChan c { s.chan c with cb := some k, width := some w }).logResp ⟨.init c k w, ⟨.ok, false, 0, 0⟩⟩)

/-- R164: `enable` requests both clocks; if the flag was true nothing else happens, else the counter goes up, the sources are
masked, the flag is set and `Disabled` becomes `Idle`. -/
def Obligations.EnableCountsOnce : Prop :=
  ∀ (s a : State) (c : Chan), (s.chan c).settled →
    a = { s with clk0 := true, clk1 := true, clkLog := s.clkLog ++ [⟨true, .d0⟩, ⟨true, .d1⟩] } →
    ((s.chan c).en = true → exec (.enable c) s = .next (a.logResp ⟨.enable c, ⟨.ok, false, 0, 0⟩⟩)) ∧
    ((s.chan c).en = false → exec (.enable c) s = .next
      (((({ a with numEnabled := s.numEnabled + 1 } : State).setChan c { s.chan c with
        imr := 0, en := true, fsm := if (s.chan c).fsm = .disabled then .idle else (s.chan c).fsm }).logBus
          (.wr c .idr 7)).logResp ⟨.enable c, ⟨.ok, false, 0, 0⟩⟩))

/-- R165: `disable` of a disabled engine is a no-op and at a zero counter faults; otherwise the counter goes down, the clocks
go off exactly when it stood at 1, `SR.TEN` is cleared if the write lands (always on a block still clocked, else as R121
says), flag and state follow. -/
def Obligations.DisableCountsDown : Prop :=
  ∀ (s : State) (c : Chan), (s.chan c).settled →
    ((s.chan c).en = false → exec (.disable c) s = .next (s.logResp ⟨.disable c, ⟨.ok, false, 0, 0⟩⟩)) ∧
    ((s.chan c).en = true → s.numEnabled = 0 →
      exec (.disable c) s = .next (s.logResp ⟨.disable c, ⟨.counterUnderflow, false, 0, 0⟩⟩)) ∧
    ((s.chan c).en = true → s.numEnabled ≠ 0 → s.numEnabled ≠ 1 → s.clkOk = true → exec (.disable c) s = .next
      (((({ s with numEnabled := s.numEnabled - 1 } : State).setChan c { s.chan c with
        ten := false, en := false, fsm := .disabled }).logBus (.wr c .cr 2)).logResp ⟨.disable c, ⟨.ok, false, 0, 0⟩⟩)) ∧
    ((s.chan c).en = true → s.numEnabled = 1 ∨ (s.numEnabled ≠ 0 ∧ s.clkOk = false) →
      ∃ lands d, (s.params.clkOff = .lands → lands = true) ∧ (s.params.clkOff = .dropped → lands = false) ∧
        exec (.disable c) s = .next
          (((({ s with
              numEnabled := s.numEnabled - 1,
              clk0 := s.clk0 && decide (s.numEnabled ≠ 1),
              clk1 := s.clk1 && decide (s.numEnabled ≠ 1),
              clkLog := if s.numEnabled = 1 then s.clkLog ++ [⟨false, .d0⟩, ⟨false, .d1⟩] else s.clkLog,
              draws := d } : State).setChan c { s.chan c with
                ten := (s.chan c).ten && !lands, en := false, fsm := .disabled }).logBus (.wr c .cr 2)).logResp
            ⟨.disable c, ⟨.ok, false, 0, 0⟩⟩))

/-- R167: with no `enable` or `disable` interleaved in another operation's micro-steps, every step keeps INV1 (the counter
equals the number of enabled flags) and INV8 (the block is clocked while the counter is not 0). Every other operation may be
in progress in either context, accepted, issued as a reaction or run micro-step by micro-step; `enable` and `disable` run
whole. -/
def Obligations.StepKeepsCounterInvariant : Prop :=
  ∀ s t : State, s.counterInv → s.noCountInProgress = true →
    (∀ x, s.inputs.head? = some x → x.opensCount s.params = false) → step s = .next t →
    t.counterInv ∧ t.noCountInProgress = true

/-! ## Transfer operations -/

/-- R181: the programmed count is the clamp modulo 65536, equals it up to 65535, and never leaves the buffer. -/
def Obligations.ProgrammedCountStaysInBuffer : Prop :=
  ∀ (w : Width) (blen r : Word),
    (programmedCount w blen r).toNat = min r.toNat (blen.toNat / widthBytes w) % 65536 ∧
    (min r.toNat (blen.toNat / widthBytes w) ≤ 65535 →
      (programmedCount w blen r).toNat = min r.toNat (blen.toNat / widthBytes w)) ∧
    (programmedCount w blen r).toNat * widthBytes w ≤ blen.toNat

/-- R241, R242, R244: the guarded operations fault before any change, with the fault's status and nothing else in the
response: `prepare` and `xfer` with `NotInitialized` (checked first) or `SlotOccupied`, `disable` with `CounterUnderflow`. -/
def Obligations.GuardedOperationsFault : Prop :=
  ∀ (s : State) (c : Chan) (p : BitVec 8) (b : Buffer) (r : Word),
    (validPid s.params p = true → (s.chan c).width = none →
      exec (.prepare c p b r) s = .next (s.logResp ⟨.prepare c p b r, ⟨.notInitialized, false, 0, 0⟩⟩) ∧
      exec (.xfer c p b r) s = .next (s.logResp ⟨.xfer c p b r, ⟨.notInitialized, false, 0, 0⟩⟩)) ∧
    (validPid s.params p = true → (s.chan c).width ≠ none → (s.chan c).slot ≠ none →
      exec (.prepare c p b r) s = .next (s.logResp ⟨.prepare c p b r, ⟨.slotOccupied, false, 0, 0⟩⟩) ∧
      exec (.xfer c p b r) s = .next (s.logResp ⟨.xfer c p b r, ⟨.slotOccupied, false, 0, 0⟩⟩)) ∧
    ((s.chan c).en = true → s.numEnabled = 0 →
      exec (.disable c) s = .next (s.logResp ⟨.disable c, ⟨.counterUnderflow, false, 0, 0⟩⟩))

/-- R180: `prepare` on a clocked channel with nothing left to move and every source masked: size, peripheral, address and
count are programmed, only `TRC` is unmasked, the slot is filled; a zero count is complete at once (R296). -/
def Obligations.PrepareProgramsTheChannel : Prop :=
  ∀ (s : State) (c : Chan) (p : BitVec 8) (b : Buffer) (r : Word) (w : Width) (n : BitVec 16),
    s.clkOk = true → validPid s.params p = true → (s.chan c).width = some w → (s.chan c).slot = none →
    (s.chan c).tcr = 0 → (s.chan c).tcrr = 0 → (s.chan c).imr = 0 →
    n = BitVec.ofNat 16 (min r.toNat (b.blen.toNat / widthBytes w)) →
    exec (.prepare c p b r) s = .next
      { s.setChan c { s.chan c with
          mr := (widthCode w).setWidth 4, psr := p, marr := b.addr,
          mar := if n = 0 then (s.chan c).mar else b.addr, tcr := n, imr := 0b010, slot := some b,
          fsm := if (s.chan c).fsm = .idle then .configured else (s.chan c).fsm,
          pend := (s.chan c).pend || decide (n = 0) } with
        busLog := s.busLog ++ [.wr c .mr ((widthCode w).setWidth 32), .wr c .psr (p.setWidth 32), .wr c .marr b.addr,
          .wr c .tcrr (n.setWidth 32), .wr c .ier 2],
        respLog := s.respLog ++ [⟨.prepare c p b r, ⟨.ok, false, 0, 0⟩⟩] }

/-- R183, R187: `xfer` under the same conditions programs the channel, arms it and leaves an `Idle` engine `Running`. -/
def Obligations.TransferProgramsAndStarts : Prop :=
  ∀ (s : State) (c : Chan) (p : BitVec 8) (b : Buffer) (r : Word) (w : Width) (n : BitVec 16),
    s.clkOk = true → validPid s.params p = true → (s.chan c).width = some w → (s.chan c).slot = none →
    (s.chan c).tcr = 0 → (s.chan c).tcrr = 0 → (s.chan c).imr = 0 →
    n = BitVec.ofNat 16 (min r.toNat (b.blen.toNat / widthBytes w)) →
    exec (.xfer c p b r) s = .next
      { s.setChan c { s.chan c with
          mr := (widthCode w).setWidth 4, psr := p, marr := b.addr,
          mar := if n = 0 then (s.chan c).mar else b.addr, tcr := n, imr := 0b010, slot := some b, ten := true,
          fsm := if (s.chan c).fsm = .idle ∨ (s.chan c).fsm = .configured then .running else (s.chan c).fsm,
          pend := (s.chan c).pend || decide (n = 0) } with
        busLog := s.busLog ++ [.wr c .mr ((widthCode w).setWidth 32), .wr c .psr (p.setWidth 32), .wr c .marr b.addr,
          .wr c .tcrr (n.setWidth 32), .wr c .ier 2, .wr c .cr 1],
        respLog := s.respLog ++ [⟨.xfer c p b r, ⟨.ok, false, 0, 0⟩⟩] }

/-- R295: on a stale count `prepare` queues the new count behind the old one, and an `abort` then starts the queued count
instead of stopping the channel. -/
def Obligations.StaleCountDefeatsPrepareAndAbort : Prop :=
  ∀ (s : State) (c : Chan) (p : BitVec 8) (b : Buffer) (r : Word) (w : Width) (n : BitVec 16),
    s.clkOk = true → validPid s.params p = true → (s.chan c).width = some w → (s.chan c).slot = none →
    (s.chan c).tcr ≠ 0 → n = BitVec.ofNat 16 (min r.toNat (b.blen.toNat / widthBytes w)) →
    ∃ t, exec (.prepare c p b r) s = .next t ∧ (t.chan c).mar = (s.chan c).mar ∧ (t.chan c).tcr = (s.chan c).tcr ∧
      (t.chan c).tcrr = n ∧ (t.chan c).marr = b.addr ∧ (t.chan c).slot = some b ∧
      (t.chan c).imr = (s.chan c).imr ||| 0b010 ∧
      (n ≠ 0 → ∃ u, exec (.abort c) t = .next u ∧ (u.chan c).tcr = n ∧ (u.chan c).mar = b.addr ∧ (u.chan c).tcrr = 0)

/-- R182: `start` issues the transfer-enable command and moves `Configured` to `Running`, nothing else. -/
def Obligations.StartEnablesTransfer : Prop :=
  ∀ (s : State) (c : Chan), s.clkOk = true → (s.chan c).settled →
    exec (.start c) s = .next (((s.setChan c { s.chan c with
      ten := true, fsm := if (s.chan c).fsm = .configured then .running else (s.chan c).fsm }).logBus (.wr c .cr 1)).logResp
        ⟨.start c, ⟨.ok, false, 0, 0⟩⟩)

/-- R183: `xfer` is `prepare` followed by `start`, the `start` half skipped if `prepare` faults; one response. -/
def Obligations.TransferIsPrepareThenStart : Prop :=
  ∀ (s : State) (c : Chan) (p : BitVec 8) (b : Buffer) (r : Word), validPid s.params p = true →
    ∃ t u v st, exec (.prepare c p b r) s = .next t ∧ exec (.start c) t = .next u ∧ exec (.xfer c p b r) s = .next v ∧
      t.respLog = s.respLog ++ [⟨.prepare c p b r, ⟨st, false, 0, 0⟩⟩] ∧
      (st ≠ .ok → v = { t with respLog := s.respLog ++ [⟨.xfer c p b r, ⟨st, false, 0, 0⟩⟩] }) ∧
      (st = .ok → v = { u with respLog := s.respLog ++ [⟨.xfer c p b r, ⟨.ok, false, 0, 0⟩⟩] })

/-- R184: `transfer_counter` answers the elements remaining and changes nothing. -/
def Obligations.CountAnswersRemaining : Prop :=
  ∀ (s : State) (c : Chan), s.clkOk = true →
    exec (.count c) s = .next ((s.logBus (.rd c .tcr ((s.chan c).tcr.setWidth 32))).logResp
      ⟨.count c, ⟨.ok, false, (s.chan c).tcr.setWidth 32, 0⟩⟩)

/-- R185: `abort` masks all sources, zeroes the count (a queued count reloads, R128), empties the slot and answers its
contents; `SR.TEN`, `pend`, `terr`, `PSR`, `MARR` and `MR` keep their values. -/
def Obligations.AbortReleasesTheBuffer : Prop :=
  ∀ (s : State) (c : Chan), s.clkOk = true → (s.chan c).settled →
    exec (.abort c) s = .next
      { s.setChan c { s.chan c with
          imr := 0, tcr := (s.chan c).tcrr, tcrr := 0,
          mar := if (s.chan c).tcrr = 0 then (s.chan c).mar else (s.chan c).marr, slot := none,
          fsm := if (s.chan c).fsm = .configured ∨ (s.chan c).fsm = .running then .idle else (s.chan c).fsm } with
        busLog := s.busLog ++ [.wr c .idr 7, .wr c .tcr 0],
        respLog := s.respLog ++ [⟨.abort c, match (s.chan c).slot with
          | some b => ⟨.ok, true, b.addr, b.blen⟩
          | none => ⟨.ok, false, 0, 0⟩⟩] }

/-- R291: the slot and `fsm` after `start`, `abort`, `count`, `irq`, `prepare` and `xfer`, and the answers of `abort`, `prepare`
and `xfer`, are the same whether or not the block is clocked. The answer of `count` is some 16-bit value (a draw on an
unclocked block, R184 (c)); of the answer of `irq`, which judges the word read from `PSR`, nothing is said. -/
def Obligations.EngineEffectsNeedNoClock : Prop :=
  ∀ (s : State) (c : Chan),
    (∃ t, exec (.start c) s = .next t ∧ (t.chan c).slot = (s.chan c).slot ∧
      (t.chan c).fsm = (if (s.chan c).fsm = .configured then .running else (s.chan c).fsm)) ∧
    (∃ t, exec (.abort c) s = .next t ∧ (t.chan c).slot = none ∧
      (t.chan c).fsm = (if (s.chan c).fsm = .configured ∨ (s.chan c).fsm = .running then .idle else (s.chan c).fsm) ∧
      t.respLog = s.respLog ++ [⟨.abort c, match (s.chan c).slot with
        | some b => ⟨.ok, true, b.addr, b.blen⟩
        | none => ⟨.ok, false, 0, 0⟩⟩]) ∧
    (∃ t v, exec (.count c) s = .next t ∧ t.chans = s.chans ∧ v < 65536 ∧
      t.respLog = s.respLog ++ [⟨.count c, ⟨.ok, false, BitVec.ofNat 32 v, 0⟩⟩]) ∧
    (∃ t, exec (.irq c) s = .next t ∧ (t.chan c).slot = (s.chan c).slot ∧
      (t.chan c).fsm = (if (s.chan c).fsm = .configured ∨ (s.chan c).fsm = .running then .idle else (s.chan c).fsm)) ∧
    (∀ p b r, validPid s.params p = true → (s.chan c).width ≠ none → (s.chan c).slot = none →
      ∃ t, exec (.prepare c p b r) s = .next t ∧ (t.chan c).slot = some b ∧
        (t.chan c).fsm = (if (s.chan c).fsm = .idle then .configured else (s.chan c).fsm) ∧
        t.respLog = s.respLog ++ [⟨.prepare c p b r, ⟨.ok, false, 0, 0⟩⟩]) ∧
    (∀ p b r, validPid s.params p = true → (s.chan c).width ≠ none → (s.chan c).slot = none →
      ∃ t, exec (.xfer c p b r) s = .next t ∧ (t.chan c).slot = some b ∧
        (t.chan c).fsm = (if (s.chan c).fsm = .idle ∨ (s.chan c).fsm = .configured then .running else (s.chan c).fsm) ∧
        t.respLog = s.respLog ++ [⟨.xfer c p b r, ⟨.ok, false, 0, 0⟩⟩])

/-! ## Interrupts -/

/-- R226, R227, R243: `handle_interrupt` masks first, takes `Configured` and `Running` to `Idle`, reads the peripheral back
from `PSR`, and then calls the callback once, drops the completion, or faults `BadPeripheralCode` (3). -/
def Obligations.HandlerMasksThenReports : Prop :=
  ∀ (s a : State) (c : Chan), s.clkOk = true → (s.chan c).settled →
    a = { s.setChan c { s.chan c with
        imr := 0,
        fsm := if (s.chan c).fsm = .configured ∨ (s.chan c).fsm = .running then .idle else (s.chan c).fsm } with
      busLog := s.busLog ++ [.wr c .idr 7, .rd c .psr ((s.chan c).psr.setWidth 32)] } →
    (validPid s.params (s.chan c).psr = true → ∀ k, (s.chan c).cb = some k →
      exec (.irq c) s = .next ((a.logCb ⟨k, (s.chan c).psr⟩).logResp ⟨.irq c, ⟨.ok, false, 0, 0⟩⟩)) ∧
    (validPid s.params (s.chan c).psr = true → (s.chan c).cb = none →
      exec (.irq c) s = .next (a.logResp ⟨.irq c, ⟨.ok, false, 0, 0⟩⟩)) ∧
    (validPid s.params (s.chan c).psr = false →
      exec (.irq c) s = .next (a.logResp ⟨.irq c, ⟨.badPeripheralCode, false, 0, 0⟩⟩))

/-- R222, R252: a dispatch clears `pend`, marks the handler active and starts it, whatever clocks, flag and line. Where no
dispatch is enabled the spec has no step; that the model then takes the input off the tape and changes nothing else is its own
choice (log 15, DESIGN CHOICE). -/
def Obligations.DispatchStartsTheHandler : Prop :=
  ∀ (s : State) (c : Chan) (t : List Input), s.inputs = .dispatch c :: t →
    (s.active = none → (s.chan c).pend = true → step s = .next
      { s.setChan c { s.chan c with pend := false } with
        active := some c, ctxI := .running ⟨.irq c, 0, {}⟩ none, inputs := t }) ∧
    (s.active ≠ none ∨ (s.chan c).pend = false → step s = .next { s with inputs := t })

/-- R225, R253: the return makes no handler active and the interrupt context idle; nothing is restored. -/
def Obligations.ReturnFromHandler : Prop :=
  ∀ (s : State) (c : Chan) (t : List Input), s.inputs = .interrupt :: t → s.active = some c → s.ctxI = .returning →
    step s = .next { s with active := none, ctxI := .idle, inputs := t }

/-- R222, R224 (c), R253: while a handler is active the normal context does not advance, no other handler starts, and the
handler ends only by its return. -/
def Obligations.HandlersDoNotNest : Prop :=
  ∀ (s t : State) (c : Chan), s.active = some c → s.inputs.head? ≠ some .reset → step s = .next t →
    t.ctxN = s.ctxN ∧ (t.active = some c ∨ (t.active = none ∧ s.ctxI = .returning))

/-- R222, R225, R226 together: a pending completion on a clocked channel with a callback and a valid `PSR`, dispatched and
run micro-step by micro-step to its return, emits exactly one `transfer_done`, leaves the channel masked and the slot held. -/
def Obligations.DispatchedHandlerRunsToItsReturn : Prop :=
  ∀ (s : State) (c : Chan) (k : Word) (t : List Input),
    s.inputs = .dispatch c :: List.replicate 7 .interrupt ++ t → s.active = none → (s.chan c).pend = true →
    s.clkOk = true → (s.chan c).settled → validPid s.params (s.chan c).psr = true → (s.chan c).cb = some k →
    Host.Core.run Sys2Proof.core 8 s = .next
      { s.setChan c { s.chan c with
          pend := false, imr := 0,
          fsm := if (s.chan c).fsm = .configured ∨ (s.chan c).fsm = .running then .idle else (s.chan c).fsm } with
        ctxI := .idle, inputs := t,
        busLog := s.busLog ++ [.wr c .idr 7, .rd c .psr ((s.chan c).psr.setWidth 32)],
        cbLog := s.cbLog ++ [⟨k, (s.chan c).psr⟩],
        respLog := s.respLog ++ [⟨.irq c, ⟨.ok, false, 0, 0⟩⟩] }

/-- R221: in every micro-step of every agent a line that rises sets `pend`, nothing else sets it, and only a dispatch of that
channel clears it. -/
def Obligations.PendingFollowsRisingEdges : Prop :=
  ∀ (s t : State) (x : Input) (c : Chan), s.inputs.head? = some x → x.isMicroStep = true → step s = .next t →
    ((s.chan c).line = false → (t.chan c).line = true → (t.chan c).pend = true) ∧
    ((s.chan c).pend = false → (t.chan c).pend = true → (s.chan c).line = false ∧ (t.chan c).line = true) ∧
    ((s.chan c).pend = true → (t.chan c).pend = true ∨ x = .dispatch c)

/-- R229, R276: after `transfer_done` the receiver may issue any operation but `irq`; it then stands before its first
micro-step in the interrupt context. -/
def Obligations.ReactionEntersInterruptContext : Prop :=
  ∀ (s : State) (c : Chan) (f : Frame) (q : Request) (i : Instr) (t : List Input), s.inputs = .react q :: t →
    s.active = some c → s.ctxI = .running f none → f.loc.emitted = true → decode s.params q = .ok i →
    ((∀ d, i ≠ .irq d) → step s = .next { s with ctxI := .running f (some ⟨i, 0, {}⟩), inputs := t }) ∧
    (∀ d, i = .irq d → step s = .fault .irqInReaction)

/-! ## The data mover -/

/-- R202, R203, R64: one RX element: popped once, stored little-endian at `MAR`, every other byte of memory unchanged,
address up, count down, reload and pending latch in the same step. -/
def Obligations.ReceiveMovesOneElement : Prop :=
  ∀ (s : State) (c : Chan) (v : Word) (t : List Input) (w : Width) (e : Periph) (n : Channel), s.mem.wf = true →
    s.inputs = .mover c true v :: t → s.clkOk = true → (s.chan c).ten = true → (s.chan c).tcr ≠ 0 →
    (s.chan c).terr = false → modeWidth (s.chan c).mr = some w → periphOf s.params (s.chan c).psr = some e → e.dir = .rx →
    admits s.params .write (s.chan c).mar (widthBytes w) = true →
    n = (if (s.chan c).tcr = 1 ∧ (s.chan c).tcrr ≠ 0
      then { s.chan c with mar := (s.chan c).marr, tcr := (s.chan c).tcrr, tcrr := 0 }
      else { s.chan c with mar := (s.chan c).mar + BitVec.ofNat 32 (widthBytes w), tcr := (s.chan c).tcr - 1 }) →
    ∃ m, step s = .next
        { s.setChan c { n with pend := (s.chan c).pend || (!(s.chan c).line && n.line) } with
          mem := m, inputs := t,
          perLog := s.perLog ++ [.pop (s.chan c).psr (widthBytes w) ((v.extractLsb' 0 (8 * widthBytes w)).setWidth 32)],
          memLog := s.memLog ++ [⟨c, .write, (s.chan c).mar, widthBytes w,
            some ((v.extractLsb' 0 (8 * widthBytes w)).setWidth 32)⟩] } ∧
      (∀ i, i < widthBytes w → Memory.readByte m ((s.chan c).mar.toNat + i) = v.extractLsb' (8 * i) 8) ∧
      (∀ a, a < (s.chan c).mar.toNat ∨ (s.chan c).mar.toNat + widthBytes w ≤ a →
        Memory.readByte m a = s.mem.readByte a)

/-- R202, R203, R64: one TX element: the little-endian value of the bytes at `MAR` is pushed once, memory is unchanged. -/
def Obligations.TransmitMovesOneElement : Prop :=
  ∀ (s : State) (c : Chan) (v : Word) (t : List Input) (w : Width) (e : Periph) (n : Channel),
    s.inputs = .mover c true v :: t → s.clkOk = true → (s.chan c).ten = true → (s.chan c).tcr ≠ 0 →
    (s.chan c).terr = false → modeWidth (s.chan c).mr = some w → periphOf s.params (s.chan c).psr = some e → e.dir = .tx →
    admits s.params .read (s.chan c).mar (widthBytes w) = true →
    n = (if (s.chan c).tcr = 1 ∧ (s.chan c).tcrr ≠ 0
      then { s.chan c with mar := (s.chan c).marr, tcr := (s.chan c).tcrr, tcrr := 0 }
      else { s.chan c with mar := (s.chan c).mar + BitVec.ofNat 32 (widthBytes w), tcr := (s.chan c).tcr - 1 }) →
    ∃ x : Word, x.toNat < 2 ^ (8 * widthBytes w) ∧
      (∀ i, i < widthBytes w → x.extractLsb' (8 * i) 8 = s.mem.readByte ((s.chan c).mar.toNat + i)) ∧
      step s = .next
        { s.setChan c { n with pend := (s.chan c).pend || (!(s.chan c).line && n.line) } with
          inputs := t,
          perLog := s.perLog ++ [.push (s.chan c).psr (widthBytes w) x],
          memLog := s.memLog ++ [⟨c, .read, (s.chan c).mar, widthBytes w, some x⟩] }

/-- R205, R66: an access the memory port refuses latches `terr` and logs the refusal; no byte, no element, no address and no
count changes; the line rises only if `TERR` is unmasked. -/
def Obligations.RefusedAccessLatchesError : Prop :=
  ∀ (s : State) (c : Chan) (v : Word) (t : List Input) (w : Width) (e : Periph) (k : Access) (n : Channel),
    s.inputs = .mover c true v :: t → s.clkOk = true → (s.chan c).ten = true → (s.chan c).tcr ≠ 0 →
    (s.chan c).terr = false → modeWidth (s.chan c).mr = some w → periphOf s.params (s.chan c).psr = some e →
    k = (match e.dir with
      | .rx => .write
      | .tx => .read) →
    admits s.params k (s.chan c).mar (widthBytes w) = false → n = { s.chan c with terr := true } →
    step s = .next
      { s.setChan c { n with pend := (s.chan c).pend || (!(s.chan c).line && n.line) } with
        inputs := t, memLog := s.memLog ++ [⟨c, k, (s.chan c).mar, widthBytes w, none⟩] }

/-- R65, R66: the memory port refuses a misaligned request, one with a byte inside the register space, and one with a byte
outside the memory allocated for that kind of access; and it admits an aligned request whose bytes all lie outside the
register space and in one region that the platform allocates for that kind of access. That the platform's admission is a list
of such regions is the model's (log 9, PRESUMED), and so is that it does not depend on the size of the request (log 34,
DESIGN CHOICE). -/
def Obligations.MemoryPortRefuses : Prop :=
  ∀ (P : Params) (k : Access) (a : Word) (w : Width),
    (a.toNat % widthBytes w ≠ 0 → admits P k a (widthBytes w) = false) ∧
    (∀ i, i < widthBytes w → inRegSpace P (a.toNat + i) = true → admits P k a (widthBytes w) = false) ∧
    (∀ i, i < widthBytes w → (∀ g ∈ P.regions, a.toNat + i < g.base ∨ g.base + g.size ≤ a.toNat + i ∨
        k = .read ∧ g.read = false ∨ k = .write ∧ g.write = false) →
      admits P k a (widthBytes w) = false) ∧
    (∀ g ∈ P.regions, a.toNat % widthBytes w = 0 → (∀ i, i < widthBytes w → inRegSpace P (a.toNat + i) = false) →
      g.base ≤ a.toNat → a.toNat + widthBytes w ≤ g.base + g.size →
      (k = .read → g.read = true) → (k = .write → g.write = true) → admits P k a (widthBytes w) = true)

/-- R201: when any of the mover's conditions fails the channel does nothing and its registers keep their values. -/
def Obligations.DisabledMoverDoesNothing : Prop :=
  ∀ (s : State) (c : Chan) (ready : Bool) (v : Word) (t : List Input), s.inputs = .mover c ready v :: t →
    (s.clkOk = false ∨ (s.chan c).ten = false ∨ (s.chan c).tcr = 0 ∨ (s.chan c).terr = true ∨
      validPid s.params (s.chan c).psr = false ∨ ready = false) →
    step s = .next { s with inputs := t }

/-- R203: the last element completes the transfer: the count is 0, `ISR` reads `0b011`, `SR.TEN`, `fsm` and `slot` stay;
the line and `pend` rise exactly if `TRC` is unmasked. -/
def Obligations.LastElementCompletes : Prop :=
  ∀ (s : State) (c : Chan) (v : Word) (t : List Input) (w : Width) (e : Periph),
    s.inputs = .mover c true v :: t → s.clkOk = true → (s.chan c).ten = true → (s.chan c).tcr = 1 →
    (s.chan c).tcrr = 0 → (s.chan c).terr = false → modeWidth (s.chan c).mr = some w →
    periphOf s.params (s.chan c).psr = some e →
    (e.dir = .rx → admits s.params .write (s.chan c).mar (widthBytes w) = true) →
    (e.dir = .tx → admits s.params .read (s.chan c).mar (widthBytes w) = true) → (s.chan c).maskLegal →
    ∃ u, step s = .next u ∧ (u.chan c).tcr = 0 ∧ (u.chan c).tcrr = 0 ∧ (u.chan c).isr = 0b011 ∧
      (u.chan c).mar = (s.chan c).mar + BitVec.ofNat 32 (widthBytes w) ∧ (u.chan c).ten = true ∧
      (u.chan c).fsm = (s.chan c).fsm ∧ (u.chan c).slot = (s.chan c).slot ∧
      (u.chan c).line = decide ((s.chan c).imr = 0b010) ∧
      (u.chan c).pend = ((s.chan c).pend || decide ((s.chan c).imr = 0b010))

/-- R206: whatever a mover's step does, it leaves `PSR`, `MARR`, `MR`, `SR.TEN`, `IMR`, the engine side, the counter, the
clocks, every other channel, every byte outside the current element, the contexts and every log but its own as they were. It
may change `MAR`, `TCR`, `terr` and `pend` of its channel, empty `TCRR` (the reload), and append at most one entry to
`mem_log` and one to `per_log`. -/
def Obligations.MoverTouchesOnlyItsElement : Prop :=
  ∀ (s u : State) (c : Chan) (ready : Bool) (v : Word) (t : List Input), s.mem.wf = true →
    s.inputs = .mover c ready v :: t → step s = .next u →
    (u.chan c).psr = (s.chan c).psr ∧ (u.chan c).marr = (s.chan c).marr ∧ (u.chan c).mr = (s.chan c).mr ∧
    (u.chan c).ten = (s.chan c).ten ∧ (u.chan c).imr = (s.chan c).imr ∧ sameEngine (u.chan c) (s.chan c) ∧
    ((u.chan c).tcrr = (s.chan c).tcrr ∨ (u.chan c).tcrr = 0) ∧
    (∀ d, d ≠ c → u.chan d = s.chan d) ∧ u.numEnabled = s.numEnabled ∧ u.clk0 = s.clk0 ∧ u.clk1 = s.clk1 ∧
    u.params = s.params ∧ u.active = s.active ∧ u.ctxN = s.ctxN ∧ u.ctxI = s.ctxI ∧ u.inputs = t ∧ u.draws = s.draws ∧
    u.clkLog = s.clkLog ∧ u.cbLog = s.cbLog ∧ u.respLog = s.respLog ∧ u.busLog = s.busLog ∧ u.hostLog = s.hostLog ∧
    (u.memLog = s.memLog ∨ ∃ e, e.chan = c ∧ u.memLog = s.memLog ++ [e]) ∧
    (u.perLog = s.perLog ∨ ∃ e, u.perLog = s.perLog ++ [e]) ∧
    (∀ a, (∀ w, modeWidth (s.chan c).mr = some w →
        a < (s.chan c).mar.toNat ∨ (s.chan c).mar.toNat + widthBytes w ≤ a) → u.mem.readByte a = s.mem.readByte a)

/-- R208: an RX transfer of `m` elements into a buffer that does not wrap (host duty, R276): after its `m` moves the bytes
from the start address hold the `m` popped values in pop order, no other byte changed, the count is 0. -/
def Obligations.ReceiveTransferFillsTheBuffer : Prop :=
  ∀ (s : State) (c : Chan) (vs : List Word) (t : List Input) (w : Width) (e : Periph), s.mem.wf = true →
    s.inputs = vs.map (fun v => Input.mover c true v) ++ t → s.clkOk = true → (s.chan c).ten = true →
    (s.chan c).terr = false → (s.chan c).tcr.toNat = vs.length → (s.chan c).tcrr = 0 →
    modeWidth (s.chan c).mr = some w → periphOf s.params (s.chan c).psr = some e → e.dir = .rx →
    (s.chan c).mar.toNat + vs.length * widthBytes w ≤ 2 ^ 32 →
    (∀ k, k < vs.length →
      admits s.params .write ((s.chan c).mar + BitVec.ofNat 32 (k * widthBytes w)) (widthBytes w) = true) →
    ∃ u, Host.Core.run Sys2Proof.core vs.length s = .next u ∧ u.inputs = t ∧ (u.chan c).tcr = 0 ∧
      (u.chan c).mar = (s.chan c).mar + BitVec.ofNat 32 (vs.length * widthBytes w) ∧
      (∀ d, d ≠ c → u.chan d = s.chan d) ∧
      (∀ k (hk : k < vs.length) i, i < widthBytes w →
        u.mem.readByte ((s.chan c).mar.toNat + k * widthBytes w + i) = (vs[k]'hk).extractLsb' (8 * i) 8) ∧
      (∀ a, a < (s.chan c).mar.toNat ∨ (s.chan c).mar.toNat + vs.length * widthBytes w ≤ a →
        u.mem.readByte a = s.mem.readByte a)

/-- R208: a TX transfer of `m` elements from a buffer that does not wrap: its `m` moves push the `m` little-endian elements of
the buffer in address order, and memory is unchanged. -/
def Obligations.TransmitTransferPushesTheBuffer : Prop :=
  ∀ (s : State) (c : Chan) (vs : List Word) (t : List Input) (w : Width) (e : Periph),
    s.inputs = vs.map (fun v => Input.mover c true v) ++ t → s.clkOk = true → (s.chan c).ten = true →
    (s.chan c).terr = false → (s.chan c).tcr.toNat = vs.length → (s.chan c).tcrr = 0 →
    modeWidth (s.chan c).mr = some w → periphOf s.params (s.chan c).psr = some e → e.dir = .tx →
    (s.chan c).mar.toNat + vs.length * widthBytes w ≤ 2 ^ 32 →
    (∀ k, k < vs.length →
      admits s.params .read ((s.chan c).mar + BitVec.ofNat 32 (k * widthBytes w)) (widthBytes w) = true) →
    ∃ u, Host.Core.run Sys2Proof.core vs.length s = .next u ∧ u.inputs = t ∧ u.mem = s.mem ∧ (u.chan c).tcr = 0 ∧
      (u.chan c).mar = (s.chan c).mar + BitVec.ofNat 32 (vs.length * widthBytes w) ∧
      (∀ d, d ≠ c → u.chan d = s.chan d) ∧
      u.perLog = s.perLog ++ (List.range vs.length).map fun k => .push (s.chan c).psr (widthBytes w)
        (BitVec.ofNat 32 (s.mem.readLE ((s.chan c).mar.toNat + k * widthBytes w) (widthBytes w)))

/-! ## Steps, contexts and the whole machine -/

/-- R250 (log 3): when the next input is a command and the normal context may accept it, the step is the meaning of the
decoded instruction, with the command taken off the tape and nothing else around it. -/
def Obligations.StepRunsDecodedInstruction : Prop :=
  ∀ (s : State) (q : Request) (i : Instr) (t : List Input), s.inputs = .command q :: t → s.active = none →
    s.ctxN = .idle → decode s.params q = .ok i → step s = exec i { s with inputs := t }

/-- R12, R251: an operation accepted and then run by its micro-steps, one step each, with no other agent chosen in between,
ends in the state its meaning gives. -/
def Obligations.MicroStepsComposeToMeaning : Prop :=
  ∀ (s : State) (q : Request) (i : Instr) (t : List Input), s.active = none → s.ctxN = .idle →
    decode s.params q = .ok i → s.inputs = .accept q :: List.replicate (program i).length .normal ++ t →
    ∃ u, exec i { s with inputs := t } = .next u ∧
      Host.Core.run Sys2Proof.core ((program i).length + 1) s = .next u

/-- R46: every step of every agent keeps memory canonical, the contexts matching, and INV3, INV4, INV5, INV6 on every channel;
no step changes the parameters (log 4). -/
def Obligations.StepKeepsInvariant : Prop :=
  ∀ s t : State, s.inv → step s = .next t → t.inv ∧ t.params = s.params

/-- The state after reset meets the invariants of `StepKeepsInvariant` and of `StepKeepsCounterInvariant` (R271 c). -/
def Obligations.ResetMeetsInvariant : Prop :=
  State.reset.inv ∧ State.reset.counterInv ∧ State.reset.noCountInProgress = true

/-- R48, R270: what the reset event leaves, from any state: every piece of the block's state but `PSR` (unspecified), the
computed `ISR` and lines included; parameters, memory and the inputs to come are not the block's and stay. -/
def Obligations.ResetEventLeavesResetValues : Prop :=
  ∀ (s : State) (t : List Input), s.inputs = .reset :: t → ∃ u, step s = .next u ∧
    (∀ c, (u.chan c).fsm = .disabled ∧ (u.chan c).en = false ∧ (u.chan c).slot = none ∧ (u.chan c).cb = none ∧
      (u.chan c).width = none ∧ (u.chan c).mar = 0 ∧ (u.chan c).marr = 0 ∧ (u.chan c).tcr = 0 ∧ (u.chan c).tcrr = 0 ∧
      (u.chan c).mr = 0 ∧ (u.chan c).ten = false ∧ (u.chan c).imr = 0b000 ∧ (u.chan c).terr = false ∧
      (u.chan c).isr = 0b011 ∧ (u.chan c).line = false ∧ (u.chan c).pend = false) ∧
    u.numEnabled = 0 ∧ u.clk0 = false ∧ u.clk1 = false ∧ u.active = none ∧ u.ctxN = .idle ∧ u.ctxI = .idle ∧
    u.clkLog = [] ∧ u.cbLog = [] ∧ u.memLog = [] ∧ u.perLog = [] ∧ u.respLog = [] ∧ u.busLog = [] ∧ u.hostLog = [] ∧
    u.params = s.params ∧ u.mem = s.mem ∧ u.inputs = t

/-- R60, R67, R147: system memory and the peripherals are the mover's, an engine operation makes register accesses only, and
R120, R258: those of one channel never change another. So an instruction leaves every byte of memory, the movers' and the
host's logs, the parameters and every channel but its own unchanged. That it leaves both contexts, `active` and the inputs
alone is the model's reading of an operation run whole (log 3). -/
def Obligations.InstructionsActOnTheirChannel : Prop :=
  ∀ (i : Instr) (s t : State), exec i s = .next t →
    sameOutside s t ∧ ∀ d, d ≠ instrChan i → t.chan d = s.chan d

/-- R32: the engine operations keep the mask at `0b000` or `0b010`. -/
def Obligations.EngineOperationsKeepMaskLegal : Prop :=
  ∀ (i : Instr) (s t : State), isRegisterAccess i = false → (∀ c, (s.chan c).maskLegal) → exec i s = .next t →
    ∀ c, (t.chan c).maskLegal

/-- R30, R39, R36, R41: which instructions can change `SR.TEN`, the slot, the callback and the shared counter. -/
def Obligations.OnlyTheirInstructionsChange : Prop :=
  ∀ (i : Instr) (s t : State) (c : Chan), exec i s = .next t →
    ((t.chan c).ten ≠ (s.chan c).ten → (∃ v, i = .wrCr c v) ∨ i = .start c ∨ i = .disable c ∨ ∃ p b r, i = .xfer c p b r) ∧
    ((t.chan c).slot ≠ (s.chan c).slot →
      (∃ p b r, i = .prepare c p b r ∨ i = .xfer c p b r) ∨ (i = .abort c ∧ (t.chan c).slot = none)) ∧
    ((t.chan c).cb ≠ (s.chan c).cb → ∃ k w, i = .init c k w) ∧
    (t.numEnabled ≠ s.numEnabled → ∃ d, i = .enable d ∨ i = .disable d)

/-- R72, R276 (log 18, DESIGN CHOICE): with both contexts idle (a receiver's accesses in its callback are not in this
statement) the host reads and writes bytes of allocated memory in the total order: a read gives what the latest write left, a
write changes one byte. An access to a byte that an occupied slot holds is recorded as a race and otherwise has the same
effect; one to a byte no slot holds is no race. -/
def Obligations.HostAccessIsOrderedAndFlagged : Prop :=
  ∀ (s : State) (a : Word) (b : Byte) (t : List Input) (r : Bool), s.mem.wf = true → s.active = none → s.ctxN = .idle →
    s.ctxI = .idle → inRegSpace s.params a.toNat = false →
    (∃ g ∈ s.params.regions, g.base ≤ a.toNat ∧ a.toNat < g.base + g.size) →
    (r = true ∧ (∃ c x, (s.chan c).slot = some x ∧ (a - x.addr).toNat < x.blen.toNat) ∨
      r = false ∧ ∀ c x, (s.chan c).slot = some x → x.blen.toNat ≤ (a - x.addr).toNat) →
    (s.inputs = .hostWrite a b :: t →
      ∃ m, step s = .next { s with mem := m, inputs := t, hostLog := s.hostLog ++ [⟨.write, a, b, r⟩] } ∧
        Memory.readByte m a.toNat = b ∧ ∀ x, x ≠ a.toNat → Memory.readByte m x = s.mem.readByte x) ∧
    (s.inputs = .hostRead a :: t →
      step s = .next { s with inputs := t, hostLog := s.hostLog ++ [⟨.read, a, s.mem.readByte a.toNat, r⟩] })

/-- R72, R290, C13 (log 18): a buffer is owned from the first micro-step of the `prepare` or `xfer` that fills the slot (not
from its acceptance, and not by one that faults), at each of its micro-steps, until the micro-step of `abort` that empties
the slot, though an `xfer` that filled it may still be in progress. -/
def Obligations.OwnershipRunsFromPrepareToAbort : Prop :=
  ∀ (s : State) (c : Chan) (p : BitVec 8) (b : Buffer) (r : Word) (i : Instr) (t : List Input) (a : Word),
    i = .prepare c p b r ∨ i = .xfer c p b r → s.inputs = .normal :: t → s.active = none → s.ctxI = .idle →
    Buffer.holds b a = true → (∀ d x, d ≠ c → (s.chan d).slot = some x → Buffer.holds x a = false) →
    (s.ctxN = .running ⟨i, 0, {}⟩ none → (s.chan c).slot = none → owned s a = false ∧
      ((s.chan c).width ≠ none → ∃ u, step s = .next u ∧ owned u a = true) ∧
      ((s.chan c).width = none → ∃ u, step s = .next u ∧ owned u a = false)) ∧
    (∀ k l, s.ctxN = .running ⟨i, k, l⟩ none → 1 ≤ k → k ≤ 6 → owned s a = true ∧
      ∃ u, step s = .next u ∧ owned u a = true ∧ (k = 6 → (u.chan c).slot = some b)) ∧
    (∀ k l, s.ctxN = .running ⟨i, k, l⟩ none → 7 ≤ k → ∃ u, exec (.abort c) s = .next u ∧ owned s a =
        ((s.chan c).slot.map fun x => Buffer.holds x a).getD false ∧ owned u a = false)
end

