-- ==== Sys2Proof/Laws/Memory.lean ====
section
/-! SUPPORT. Memory keeps its canonical form, and reads see writes (20_memory.md R64, R66). -/

namespace Sys2Proof.Machine

/-- A higher lower bound is a stronger form. -/
theorem Memory.wfAbove_mono {lo lo' : Nat} (h : lo ≤ lo') : ∀ {m : Memory}, Memory.wfAbove lo' m = true → Memory.wfAbove lo m = true
  | [], _ => rfl
  | (k, x) :: m, hm => by
    simp only [Memory.wfAbove, Bool.and_eq_true, decide_eq_true_eq] at hm ⊢
    exact ⟨⟨h.trans hm.1.1, hm.1.2⟩, hm.2⟩

/-- An address below every listed one reads as an unlisted address. -/
theorem Memory.readByte_below : ∀ {m : Memory} {lo a : Nat}, Memory.wfAbove lo m = true → a < lo → m.readByte a = blankByte
  | [], _, _, _, _ => rfl
  | (k, x) :: m, lo, a, hm, ha => by
    simp only [Memory.wfAbove, Bool.and_eq_true, decide_eq_true_eq] at hm
    have hk : a ≠ k := by omega
    simp only [Memory.readByte, hk, if_false]
    exact Memory.readByte_below hm.2 (by omega)

/-- Writing one byte keeps the canonical form. -/
theorem Memory.wfAbove_writeByte : ∀ {m : Memory} {lo a : Nat} {b : Byte}, Memory.wfAbove lo m = true → lo ≤ a →
    Memory.wfAbove lo (m.writeByte a b) = true
  | [], lo, a, b, _, ha => by
    by_cases hb : b = blankByte <;> simp [Memory.writeByte, Memory.wfAbove, hb, ha]
  | (k, x) :: m, lo, a, b, hm, ha => by
    have hm' := hm
    simp only [Memory.wfAbove, Bool.and_eq_true, decide_eq_true_eq] at hm
    obtain ⟨⟨h1, h2⟩, h3⟩ := hm
    simp only [Memory.writeByte]
    split
    · split
      · exact hm'
      · rename_i hak hb
        simp only [Memory.wfAbove, Bool.and_eq_true, decide_eq_true_eq]
        exact ⟨⟨ha, hb⟩, ⟨by omega, h2⟩, h3⟩
    · split
      · split
        · exact Memory.wfAbove_mono (by omega) h3
        · rename_i hak hb
          simp only [Memory.wfAbove, Bool.and_eq_true, decide_eq_true_eq]
          subst hak
          exact ⟨⟨ha, hb⟩, h3⟩
      · simp only [Memory.wfAbove, Bool.and_eq_true, decide_eq_true_eq]
        exact ⟨⟨h1, h2⟩, Memory.wfAbove_writeByte h3 (by omega)⟩

/-- Every byte write keeps the canonical form. -/
theorem Memory.wf_writeByte {m : Memory} (h : m.wf = true) (a : Nat) (b : Byte) : (m.writeByte a b).wf = true :=
  Memory.wfAbove_writeByte h (Nat.zero_le a)

/-- Every element write keeps the canonical form. -/
theorem Memory.wf_writeLE : ∀ (n : Nat) {m : Memory} (a v : Nat), m.wf = true → (m.writeLE a v n).wf = true
  | 0, _, _, _, h => h
  | n + 1, _, a, _, h => Memory.wf_writeLE n (a + 1) _ (Memory.wf_writeByte h a _)

/-- What a byte reads as after one byte was written. -/
theorem Memory.readByte_writeByte_above : ∀ {m : Memory} {lo : Nat} (a x : Nat) (b : Byte), Memory.wfAbove lo m = true →
    (m.writeByte a b).readByte x = if x = a then b else m.readByte x
  | [], _, a, x, b, _ => by
    by_cases hb : b = blankByte <;> by_cases hx : x = a <;> simp [Memory.writeByte, Memory.readByte, hb, hx]
  | (k, y) :: m, lo, a, x, b, hm => by
    have hm' := hm
    simp only [Memory.wfAbove, Bool.and_eq_true, decide_eq_true_eq] at hm
    obtain ⟨⟨h1, h2⟩, h3⟩ := hm
    have below : ∀ z, z < k → Memory.readByte ((k, y) :: m) z = blankByte := fun z hz => by
      simp only [Memory.readByte, show z ≠ k by omega, if_false]
      exact Memory.readByte_below h3 (by omega)
    simp only [Memory.writeByte]
    split
    · rename_i hak
      split
      · rename_i hb
        by_cases hx : x = a
        · subst hx; rw [below x hak]; simp [hb]
        · simp [hx]
      · by_cases hx : x = a <;> simp [Memory.readByte, hx]
    · split
      · rename_i hak; subst hak
        split
        · rename_i hb
          by_cases hx : x = a
          · subst hx; rw [Memory.readByte_below h3 (by omega)]; simp [hb]
          · simp [Memory.readByte, hx]
        · by_cases hx : x = a <;> simp [Memory.readByte, hx]
      · rename_i hlt hne
        by_cases hx : x = k
        · have : k ≠ a := fun e => hne e.symm
          simp [Memory.readByte, hx, this]
        · simp only [Memory.readByte, hx, if_false]
          exact Memory.readByte_writeByte_above a x b h3

/-- Read after a byte write, in canonical memory. -/
theorem Memory.readByte_writeByte {m : Memory} (h : m.wf = true) (a x : Nat) (b : Byte) :
    (m.writeByte a b).readByte x = if x = a then b else m.readByte x :=
  Memory.readByte_writeByte_above a x b h

/-- Read after an element write, in canonical memory: byte `i` of the element at `a + i`, the rest as before (R64). -/
theorem Memory.readByte_writeLE : ∀ (n : Nat) {m : Memory} (a v x : Nat), m.wf = true →
    (m.writeLE a v n).readByte x =
      if a ≤ x ∧ x < a + n then BitVec.ofNat 8 (v / 256 ^ (x - a)) else m.readByte x
  | 0, m, a, v, x, _ => by
    rw [if_neg (by omega)]; rfl
  | n + 1, m, a, v, x, h => by
    rw [Memory.writeLE, Memory.readByte_writeLE n (a + 1) (v / 256) x (Memory.wf_writeByte h a _),
      Memory.readByte_writeByte h]
    by_cases h0 : x = a
    · subst h0
      rw [if_neg (by omega), if_pos rfl, if_pos (by omega)]
      simp
    · by_cases h1 : a + 1 ≤ x ∧ x < a + 1 + n
      · have e : x - a = (x - (a + 1)) + 1 := by omega
        rw [if_pos h1, if_pos (by omega), e, pow_succ', Nat.div_div_eq_div_mul]
      · rw [if_neg h1, if_neg h0, if_neg (by omega)]

/-- Every byte of an admitted request is admitted, and the request is aligned (R65, R66). -/
theorem admits_iff (P : Params) (k : Access) (a : Word) (n : Nat) :
    admits P k a n = true ↔ a.toNat % n = 0 ∧ ∀ i, i < n → byteAdmitted P k (a.toNat + i) = true := by
  simp [admits]

/-- An element read has at most `8n` bits (R64). -/
theorem Memory.readLE_lt (m : Memory) : ∀ (n a : Nat), m.readLE a n < 256 ^ n
  | 0, _ => by simp [Memory.readLE]
  | n + 1, a => by
    have h1 := Memory.readLE_lt m n (a + 1)
    have h2 := (m.readByte a).isLt
    rw [Memory.readLE, pow_succ]
    omega

/-- Byte `i` of an element read is the byte at `a + i` (R64). -/
theorem Memory.readLE_byte (m : Memory) : ∀ (n a i : Nat), i < n →
    m.readLE a n / 256 ^ i % 256 = (m.readByte (a + i)).toNat
  | n + 1, a, 0, _ => by
    have := (m.readByte a).isLt
    simp only [Memory.readLE, pow_zero, Nat.div_one, Nat.add_zero]
    omega
  | n + 1, a, i + 1, h => by
    have h2 := (m.readByte a).isLt
    have e : ((m.readByte a).toNat + 256 * m.readLE (a + 1) n) / 256 = m.readLE (a + 1) n := by omega
    rw [Memory.readLE, pow_succ', ← Nat.div_div_eq_div_mul, e, Memory.readLE_byte m n (a + 1) i (by omega)]
    congr 2
    omega

end Sys2Proof.Machine
end

