-- ==== Sys2Proof/Laws/State.lean ====
section
/-! SUPPORT. One lemma per field of State per named update of State, and how the channels read after each. -/

namespace Sys2Proof.Machine

@[simp] theorem State.setChan_params (s : State) (c : Chan) (x : Channel) : (s.setChan c x).params = s.params := rfl
@[simp] theorem State.setChan_chans (s : State) (c : Chan) (x : Channel) : (s.setChan c x).chans = s.chans.set c x := rfl
@[simp] theorem State.setChan_numEnabled (s : State) (c : Chan) (x : Channel) : (s.setChan c x).numEnabled = s.numEnabled := rfl
@[simp] theorem State.setChan_clk0 (s : State) (c : Chan) (x : Channel) : (s.setChan c x).clk0 = s.clk0 := rfl
@[simp] theorem State.setChan_clk1 (s : State) (c : Chan) (x : Channel) : (s.setChan c x).clk1 = s.clk1 := rfl
@[simp] theorem State.setChan_active (s : State) (c : Chan) (x : Channel) : (s.setChan c x).active = s.active := rfl
@[simp] theorem State.setChan_ctxN (s : State) (c : Chan) (x : Channel) : (s.setChan c x).ctxN = s.ctxN := rfl
@[simp] theorem State.setChan_ctxI (s : State) (c : Chan) (x : Channel) : (s.setChan c x).ctxI = s.ctxI := rfl
@[simp] theorem State.setChan_mem (s : State) (c : Chan) (x : Channel) : (s.setChan c x).mem = s.mem := rfl
@[simp] theorem State.setChan_clkLog (s : State) (c : Chan) (x : Channel) : (s.setChan c x).clkLog = s.clkLog := rfl
@[simp] theorem State.setChan_cbLog (s : State) (c : Chan) (x : Channel) : (s.setChan c x).cbLog = s.cbLog := rfl
@[simp] theorem State.setChan_memLog (s : State) (c : Chan) (x : Channel) : (s.setChan c x).memLog = s.memLog := rfl
@[simp] theorem State.setChan_perLog (s : State) (c : Chan) (x : Channel) : (s.setChan c x).perLog = s.perLog := rfl
@[simp] theorem State.setChan_respLog (s : State) (c : Chan) (x : Channel) : (s.setChan c x).respLog = s.respLog := rfl
@[simp] theorem State.setChan_busLog (s : State) (c : Chan) (x : Channel) : (s.setChan c x).busLog = s.busLog := rfl
@[simp] theorem State.setChan_hostLog (s : State) (c : Chan) (x : Channel) : (s.setChan c x).hostLog = s.hostLog := rfl
@[simp] theorem State.setChan_draws (s : State) (c : Chan) (x : Channel) : (s.setChan c x).draws = s.draws := rfl
@[simp] theorem State.setChan_inputs (s : State) (c : Chan) (x : Channel) : (s.setChan c x).inputs = s.inputs := rfl
@[simp] theorem State.setChan_clkOk (s : State) (c : Chan) (x : Channel) : (s.setChan c x).clkOk = s.clkOk := rfl

@[simp] theorem State.logClk_params (s : State) (e : ClkEvent) : (s.logClk e).params = s.params := rfl
@[simp] theorem State.logClk_chans (s : State) (e : ClkEvent) : (s.logClk e).chans = s.chans := rfl
@[simp] theorem State.logClk_numEnabled (s : State) (e : ClkEvent) : (s.logClk e).numEnabled = s.numEnabled := rfl
@[simp] theorem State.logClk_clk0 (s : State) (e : ClkEvent) : (s.logClk e).clk0 = s.clk0 := rfl
@[simp] theorem State.logClk_clk1 (s : State) (e : ClkEvent) : (s.logClk e).clk1 = s.clk1 := rfl
@[simp] theorem State.logClk_active (s : State) (e : ClkEvent) : (s.logClk e).active = s.active := rfl
@[simp] theorem State.logClk_ctxN (s : State) (e : ClkEvent) : (s.logClk e).ctxN = s.ctxN := rfl
@[simp] theorem State.logClk_ctxI (s : State) (e : ClkEvent) : (s.logClk e).ctxI = s.ctxI := rfl
@[simp] theorem State.logClk_mem (s : State) (e : ClkEvent) : (s.logClk e).mem = s.mem := rfl
@[simp] theorem State.logClk_clkLog (s : State) (e : ClkEvent) : (s.logClk e).clkLog = s.clkLog ++ [e] := rfl
@[simp] theorem State.logClk_cbLog (s : State) (e : ClkEvent) : (s.logClk e).cbLog = s.cbLog := rfl
@[simp] theorem State.logClk_memLog (s : State) (e : ClkEvent) : (s.logClk e).memLog = s.memLog := rfl
@[simp] theorem State.logClk_perLog (s : State) (e : ClkEvent) : (s.logClk e).perLog = s.perLog := rfl
@[simp] theorem State.logClk_respLog (s : State) (e : ClkEvent) : (s.logClk e).respLog = s.respLog := rfl
@[simp] theorem State.logClk_busLog (s : State) (e : ClkEvent) : (s.logClk e).busLog = s.busLog := rfl
@[simp] theorem State.logClk_hostLog (s : State) (e : ClkEvent) : (s.logClk e).hostLog = s.hostLog := rfl
@[simp] theorem State.logClk_draws (s : State) (e : ClkEvent) : (s.logClk e).draws = s.draws := rfl
@[simp] theorem State.logClk_inputs (s : State) (e : ClkEvent) : (s.logClk e).inputs = s.inputs := rfl
@[simp] theorem State.logClk_clkOk (s : State) (e : ClkEvent) : (s.logClk e).clkOk = s.clkOk := rfl
@[simp] theorem State.logClk_chan (s : State) (e : ClkEvent) (d : Chan) : (s.logClk e).chan d = s.chan d := rfl

@[simp] theorem State.logCb_params (s : State) (e : CbEvent) : (s.logCb e).params = s.params := rfl
@[simp] theorem State.logCb_chans (s : State) (e : CbEvent) : (s.logCb e).chans = s.chans := rfl
@[simp] theorem State.logCb_numEnabled (s : State) (e : CbEvent) : (s.logCb e).numEnabled = s.numEnabled := rfl
@[simp] theorem State.logCb_clk0 (s : State) (e : CbEvent) : (s.logCb e).clk0 = s.clk0 := rfl
@[simp] theorem State.logCb_clk1 (s : State) (e : CbEvent) : (s.logCb e).clk1 = s.clk1 := rfl
@[simp] theorem State.logCb_active (s : State) (e : CbEvent) : (s.logCb e).active = s.active := rfl
@[simp] theorem State.logCb_ctxN (s : State) (e : CbEvent) : (s.logCb e).ctxN = s.ctxN := rfl
@[simp] theorem State.logCb_ctxI (s : State) (e : CbEvent) : (s.logCb e).ctxI = s.ctxI := rfl
@[simp] theorem State.logCb_mem (s : State) (e : CbEvent) : (s.logCb e).mem = s.mem := rfl
@[simp] theorem State.logCb_clkLog (s : State) (e : CbEvent) : (s.logCb e).clkLog = s.clkLog := rfl
@[simp] theorem State.logCb_cbLog (s : State) (e : CbEvent) : (s.logCb e).cbLog = s.cbLog ++ [e] := rfl
@[simp] theorem State.logCb_memLog (s : State) (e : CbEvent) : (s.logCb e).memLog = s.memLog := rfl
@[simp] theorem State.logCb_perLog (s : State) (e : CbEvent) : (s.logCb e).perLog = s.perLog := rfl
@[simp] theorem State.logCb_respLog (s : State) (e : CbEvent) : (s.logCb e).respLog = s.respLog := rfl
@[simp] theorem State.logCb_busLog (s : State) (e : CbEvent) : (s.logCb e).busLog = s.busLog := rfl
@[simp] theorem State.logCb_hostLog (s : State) (e : CbEvent) : (s.logCb e).hostLog = s.hostLog := rfl
@[simp] theorem State.logCb_draws (s : State) (e : CbEvent) : (s.logCb e).draws = s.draws := rfl
@[simp] theorem State.logCb_inputs (s : State) (e : CbEvent) : (s.logCb e).inputs = s.inputs := rfl
@[simp] theorem State.logCb_clkOk (s : State) (e : CbEvent) : (s.logCb e).clkOk = s.clkOk := rfl
@[simp] theorem State.logCb_chan (s : State) (e : CbEvent) (d : Chan) : (s.logCb e).chan d = s.chan d := rfl

@[simp] theorem State.logMem_params (s : State) (e : MemEvent) : (s.logMem e).params = s.params := rfl
@[simp] theorem State.logMem_chans (s : State) (e : MemEvent) : (s.logMem e).chans = s.chans := rfl
@[simp] theorem State.logMem_numEnabled (s : State) (e : MemEvent) : (s.logMem e).numEnabled = s.numEnabled := rfl
@[simp] theorem State.logMem_clk0 (s : State) (e : MemEvent) : (s.logMem e).clk0 = s.clk0 := rfl
@[simp] theorem State.logMem_clk1 (s : State) (e : MemEvent) : (s.logMem e).clk1 = s.clk1 := rfl
@[simp] theorem State.logMem_active (s : State) (e : MemEvent) : (s.logMem e).active = s.active := rfl
@[simp] theorem State.logMem_ctxN (s : State) (e : MemEvent) : (s.logMem e).ctxN = s.ctxN := rfl
@[simp] theorem State.logMem_ctxI (s : State) (e : MemEvent) : (s.logMem e).ctxI = s.ctxI := rfl
@[simp] theorem State.logMem_mem (s : State) (e : MemEvent) : (s.logMem e).mem = s.mem := rfl
@[simp] theorem State.logMem_clkLog (s : State) (e : MemEvent) : (s.logMem e).clkLog = s.clkLog := rfl
@[simp] theorem State.logMem_cbLog (s : State) (e : MemEvent) : (s.logMem e).cbLog = s.cbLog := rfl
@[simp] theorem State.logMem_memLog (s : State) (e : MemEvent) : (s.logMem e).memLog = s.memLog ++ [e] := rfl
@[simp] theorem State.logMem_perLog (s : State) (e : MemEvent) : (s.logMem e).perLog = s.perLog := rfl
@[simp] theorem State.logMem_respLog (s : State) (e : MemEvent) : (s.logMem e).respLog = s.respLog := rfl
@[simp] theorem State.logMem_busLog (s : State) (e : MemEvent) : (s.logMem e).busLog = s.busLog := rfl
@[simp] theorem State.logMem_hostLog (s : State) (e : MemEvent) : (s.logMem e).hostLog = s.hostLog := rfl
@[simp] theorem State.logMem_draws (s : State) (e : MemEvent) : (s.logMem e).draws = s.draws := rfl
@[simp] theorem State.logMem_inputs (s : State) (e : MemEvent) : (s.logMem e).inputs = s.inputs := rfl
@[simp] theorem State.logMem_clkOk (s : State) (e : MemEvent) : (s.logMem e).clkOk = s.clkOk := rfl
@[simp] theorem State.logMem_chan (s : State) (e : MemEvent) (d : Chan) : (s.logMem e).chan d = s.chan d := rfl

@[simp] theorem State.logPer_params (s : State) (e : PerEvent) : (s.logPer e).params = s.params := rfl
@[simp] theorem State.logPer_chans (s : State) (e : PerEvent) : (s.logPer e).chans = s.chans := rfl
@[simp] theorem State.logPer_numEnabled (s : State) (e : PerEvent) : (s.logPer e).numEnabled = s.numEnabled := rfl
@[simp] theorem State.logPer_clk0 (s : State) (e : PerEvent) : (s.logPer e).clk0 = s.clk0 := rfl
@[simp] theorem State.logPer_clk1 (s : State) (e : PerEvent) : (s.logPer e).clk1 = s.clk1 := rfl
@[simp] theorem State.logPer_active (s : State) (e : PerEvent) : (s.logPer e).active = s.active := rfl
@[simp] theorem State.logPer_ctxN (s : State) (e : PerEvent) : (s.logPer e).ctxN = s.ctxN := rfl
@[simp] theorem State.logPer_ctxI (s : State) (e : PerEvent) : (s.logPer e).ctxI = s.ctxI := rfl
@[simp] theorem State.logPer_mem (s : State) (e : PerEvent) : (s.logPer e).mem = s.mem := rfl
@[simp] theorem State.logPer_clkLog (s : State) (e : PerEvent) : (s.logPer e).clkLog = s.clkLog := rfl
@[simp] theorem State.logPer_cbLog (s : State) (e : PerEvent) : (s.logPer e).cbLog = s.cbLog := rfl
@[simp] theorem State.logPer_memLog (s : State) (e : PerEvent) : (s.logPer e).memLog = s.memLog := rfl
@[simp] theorem State.logPer_perLog (s : State) (e : PerEvent) : (s.logPer e).perLog = s.perLog ++ [e] := rfl
@[simp] theorem State.logPer_respLog (s : State) (e : PerEvent) : (s.logPer e).respLog = s.respLog := rfl
@[simp] theorem State.logPer_busLog (s : State) (e : PerEvent) : (s.logPer e).busLog = s.busLog := rfl
@[simp] theorem State.logPer_hostLog (s : State) (e : PerEvent) : (s.logPer e).hostLog = s.hostLog := rfl
@[simp] theorem State.logPer_draws (s : State) (e : PerEvent) : (s.logPer e).draws = s.draws := rfl
@[simp] theorem State.logPer_inputs (s : State) (e : PerEvent) : (s.logPer e).inputs = s.inputs := rfl
@[simp] theorem State.logPer_clkOk (s : State) (e : PerEvent) : (s.logPer e).clkOk = s.clkOk := rfl
@[simp] theorem State.logPer_chan (s : State) (e : PerEvent) (d : Chan) : (s.logPer e).chan d = s.chan d := rfl

@[simp] theorem State.logResp_params (s : State) (e : RespEvent) : (s.logResp e).params = s.params := rfl
@[simp] theorem State.logResp_chans (s : State) (e : RespEvent) : (s.logResp e).chans = s.chans := rfl
@[simp] theorem State.logResp_numEnabled (s : State) (e : RespEvent) : (s.logResp e).numEnabled = s.numEnabled := rfl
@[simp] theorem State.logResp_clk0 (s : State) (e : RespEvent) : (s.logResp e).clk0 = s.clk0 := rfl
@[simp] theorem State.logResp_clk1 (s : State) (e : RespEvent) : (s.logResp e).clk1 = s.clk1 := rfl
@[simp] theorem State.logResp_active (s : State) (e : RespEvent) : (s.logResp e).active = s.active := rfl
@[simp] theorem State.logResp_ctxN (s : State) (e : RespEvent) : (s.logResp e).ctxN = s.ctxN := rfl
@[simp] theorem State.logResp_ctxI (s : State) (e : RespEvent) : (s.logResp e).ctxI = s.ctxI := rfl
@[simp] theorem State.logResp_mem (s : State) (e : RespEvent) : (s.logResp e).mem = s.mem := rfl
@[simp] theorem State.logResp_clkLog (s : State) (e : RespEvent) : (s.logResp e).clkLog = s.clkLog := rfl
@[simp] theorem State.logResp_cbLog (s : State) (e : RespEvent) : (s.logResp e).cbLog = s.cbLog := rfl
@[simp] theorem State.logResp_memLog (s : State) (e : RespEvent) : (s.logResp e).memLog = s.memLog := rfl
@[simp] theorem State.logResp_perLog (s : State) (e : RespEvent) : (s.logResp e).perLog = s.perLog := rfl
@[simp] theorem State.logResp_respLog (s : State) (e : RespEvent) : (s.logResp e).respLog = s.respLog ++ [e] := rfl
@[simp] theorem State.logResp_busLog (s : State) (e : RespEvent) : (s.logResp e).busLog = s.busLog := rfl
@[simp] theorem State.logResp_hostLog (s : State) (e : RespEvent) : (s.logResp e).hostLog = s.hostLog := rfl
@[simp] theorem State.logResp_draws (s : State) (e : RespEvent) : (s.logResp e).draws = s.draws := rfl
@[simp] theorem State.logResp_inputs (s : State) (e : RespEvent) : (s.logResp e).inputs = s.inputs := rfl
@[simp] theorem State.logResp_clkOk (s : State) (e : RespEvent) : (s.logResp e).clkOk = s.clkOk := rfl
@[simp] theorem State.logResp_chan (s : State) (e : RespEvent) (d : Chan) : (s.logResp e).chan d = s.chan d := rfl

@[simp] theorem State.logBus_params (s : State) (e : BusEvent) : (s.logBus e).params = s.params := rfl
@[simp] theorem State.logBus_chans (s : State) (e : BusEvent) : (s.logBus e).chans = s.chans := rfl
@[simp] theorem State.logBus_numEnabled (s : State) (e : BusEvent) : (s.logBus e).numEnabled = s.numEnabled := rfl
@[simp] theorem State.logBus_clk0 (s : State) (e : BusEvent) : (s.logBus e).clk0 = s.clk0 := rfl
@[simp] theorem State.logBus_clk1 (s : State) (e : BusEvent) : (s.logBus e).clk1 = s.clk1 := rfl
@[simp] theorem State.logBus_active (s : State) (e : BusEvent) : (s.logBus e).active = s.active := rfl
@[simp] theorem State.logBus_ctxN (s : State) (e : BusEvent) : (s.logBus e).ctxN = s.ctxN := rfl
@[simp] theorem State.logBus_ctxI (s : State) (e : BusEvent) : (s.logBus e).ctxI = s.ctxI := rfl
@[simp] theorem State.logBus_mem (s : State) (e : BusEvent) : (s.logBus e).mem = s.mem := rfl
@[simp] theorem State.logBus_clkLog (s : State) (e : BusEvent) : (s.logBus e).clkLog = s.clkLog := rfl
@[simp] theorem State.logBus_cbLog (s : State) (e : BusEvent) : (s.logBus e).cbLog = s.cbLog := rfl
@[simp] theorem State.logBus_memLog (s : State) (e : BusEvent) : (s.logBus e).memLog = s.memLog := rfl
@[simp] theorem State.logBus_perLog (s : State) (e : BusEvent) : (s.logBus e).perLog = s.perLog := rfl
@[simp] theorem State.logBus_respLog (s : State) (e : BusEvent) : (s.logBus e).respLog = s.respLog := rfl
@[simp] theorem State.logBus_busLog (s : State) (e : BusEvent) : (s.logBus e).busLog = s.busLog ++ [e] := rfl
@[simp] theorem State.logBus_hostLog (s : State) (e : BusEvent) : (s.logBus e).hostLog = s.hostLog := rfl
@[simp] theorem State.logBus_draws (s : State) (e : BusEvent) : (s.logBus e).draws = s.draws := rfl
@[simp] theorem State.logBus_inputs (s : State) (e : BusEvent) : (s.logBus e).inputs = s.inputs := rfl
@[simp] theorem State.logBus_clkOk (s : State) (e : BusEvent) : (s.logBus e).clkOk = s.clkOk := rfl
@[simp] theorem State.logBus_chan (s : State) (e : BusEvent) (d : Chan) : (s.logBus e).chan d = s.chan d := rfl

@[simp] theorem State.logHost_params (s : State) (e : HostEvent) : (s.logHost e).params = s.params := rfl
@[simp] theorem State.logHost_chans (s : State) (e : HostEvent) : (s.logHost e).chans = s.chans := rfl
@[simp] theorem State.logHost_numEnabled (s : State) (e : HostEvent) : (s.logHost e).numEnabled = s.numEnabled := rfl
@[simp] theorem State.logHost_clk0 (s : State) (e : HostEvent) : (s.logHost e).clk0 = s.clk0 := rfl
@[simp] theorem State.logHost_clk1 (s : State) (e : HostEvent) : (s.logHost e).clk1 = s.clk1 := rfl
@[simp] theorem State.logHost_active (s : State) (e : HostEvent) : (s.logHost e).active = s.active := rfl
@[simp] theorem State.logHost_ctxN (s : State) (e : HostEvent) : (s.logHost e).ctxN = s.ctxN := rfl
@[simp] theorem State.logHost_ctxI (s : State) (e : HostEvent) : (s.logHost e).ctxI = s.ctxI := rfl
@[simp] theorem State.logHost_mem (s : State) (e : HostEvent) : (s.logHost e).mem = s.mem := rfl
@[simp] theorem State.logHost_clkLog (s : State) (e : HostEvent) : (s.logHost e).clkLog = s.clkLog := rfl
@[simp] theorem State.logHost_cbLog (s : State) (e : HostEvent) : (s.logHost e).cbLog = s.cbLog := rfl
@[simp] theorem State.logHost_memLog (s : State) (e : HostEvent) : (s.logHost e).memLog = s.memLog := rfl
@[simp] theorem State.logHost_perLog (s : State) (e : HostEvent) : (s.logHost e).perLog = s.perLog := rfl
@[simp] theorem State.logHost_respLog (s : State) (e : HostEvent) : (s.logHost e).respLog = s.respLog := rfl
@[simp] theorem State.logHost_busLog (s : State) (e : HostEvent) : (s.logHost e).busLog = s.busLog := rfl
@[simp] theorem State.logHost_hostLog (s : State) (e : HostEvent) : (s.logHost e).hostLog = s.hostLog ++ [e] := rfl
@[simp] theorem State.logHost_draws (s : State) (e : HostEvent) : (s.logHost e).draws = s.draws := rfl
@[simp] theorem State.logHost_inputs (s : State) (e : HostEvent) : (s.logHost e).inputs = s.inputs := rfl
@[simp] theorem State.logHost_clkOk (s : State) (e : HostEvent) : (s.logHost e).clkOk = s.clkOk := rfl
@[simp] theorem State.logHost_chan (s : State) (e : HostEvent) (d : Chan) : (s.logHost e).chan d = s.chan d := rfl

@[simp] theorem State.setMem_params (s : State) (m : Memory) : (s.setMem m).params = s.params := rfl
@[simp] theorem State.setMem_chans (s : State) (m : Memory) : (s.setMem m).chans = s.chans := rfl
@[simp] theorem State.setMem_numEnabled (s : State) (m : Memory) : (s.setMem m).numEnabled = s.numEnabled := rfl
@[simp] theorem State.setMem_clk0 (s : State) (m : Memory) : (s.setMem m).clk0 = s.clk0 := rfl
@[simp] theorem State.setMem_clk1 (s : State) (m : Memory) : (s.setMem m).clk1 = s.clk1 := rfl
@[simp] theorem State.setMem_active (s : State) (m : Memory) : (s.setMem m).active = s.active := rfl
@[simp] theorem State.setMem_ctxN (s : State) (m : Memory) : (s.setMem m).ctxN = s.ctxN := rfl
@[simp] theorem State.setMem_ctxI (s : State) (m : Memory) : (s.setMem m).ctxI = s.ctxI := rfl
@[simp] theorem State.setMem_mem (s : State) (m : Memory) : (s.setMem m).mem = m := rfl
@[simp] theorem State.setMem_clkLog (s : State) (m : Memory) : (s.setMem m).clkLog = s.clkLog := rfl
@[simp] theorem State.setMem_cbLog (s : State) (m : Memory) : (s.setMem m).cbLog = s.cbLog := rfl
@[simp] theorem State.setMem_memLog (s : State) (m : Memory) : (s.setMem m).memLog = s.memLog := rfl
@[simp] theorem State.setMem_perLog (s : State) (m : Memory) : (s.setMem m).perLog = s.perLog := rfl
@[simp] theorem State.setMem_respLog (s : State) (m : Memory) : (s.setMem m).respLog = s.respLog := rfl
@[simp] theorem State.setMem_busLog (s : State) (m : Memory) : (s.setMem m).busLog = s.busLog := rfl
@[simp] theorem State.setMem_hostLog (s : State) (m : Memory) : (s.setMem m).hostLog = s.hostLog := rfl
@[simp] theorem State.setMem_draws (s : State) (m : Memory) : (s.setMem m).draws = s.draws := rfl
@[simp] theorem State.setMem_inputs (s : State) (m : Memory) : (s.setMem m).inputs = s.inputs := rfl
@[simp] theorem State.setMem_clkOk (s : State) (m : Memory) : (s.setMem m).clkOk = s.clkOk := rfl
@[simp] theorem State.setMem_chan (s : State) (m : Memory) (d : Chan) : (s.setMem m).chan d = s.chan d := rfl

@[simp] theorem State.popInput_params (s : State) (t : List Input) : (s.popInput t).params = s.params := rfl
@[simp] theorem State.popInput_chans (s : State) (t : List Input) : (s.popInput t).chans = s.chans := rfl
@[simp] theorem State.popInput_numEnabled (s : State) (t : List Input) : (s.popInput t).numEnabled = s.numEnabled := rfl
@[simp] theorem State.popInput_clk0 (s : State) (t : List Input) : (s.popInput t).clk0 = s.clk0 := rfl
@[simp] theorem State.popInput_clk1 (s : State) (t : List Input) : (s.popInput t).clk1 = s.clk1 := rfl
@[simp] theorem State.popInput_active (s : State) (t : List Input) : (s.popInput t).active = s.active := rfl
@[simp] theorem State.popInput_ctxN (s : State) (t : List Input) : (s.popInput t).ctxN = s.ctxN := rfl
@[simp] theorem State.popInput_ctxI (s : State) (t : List Input) : (s.popInput t).ctxI = s.ctxI := rfl
@[simp] theorem State.popInput_mem (s : State) (t : List Input) : (s.popInput t).mem = s.mem := rfl
@[simp] theorem State.popInput_clkLog (s : State) (t : List Input) : (s.popInput t).clkLog = s.clkLog := rfl
@[simp] theorem State.popInput_cbLog (s : State) (t : List Input) : (s.popInput t).cbLog = s.cbLog := rfl
@[simp] theorem State.popInput_memLog (s : State) (t : List Input) : (s.popInput t).memLog = s.memLog := rfl
@[simp] theorem State.popInput_perLog (s : State) (t : List Input) : (s.popInput t).perLog = s.perLog := rfl
@[simp] theorem State.popInput_respLog (s : State) (t : List Input) : (s.popInput t).respLog = s.respLog := rfl
@[simp] theorem State.popInput_busLog (s : State) (t : List Input) : (s.popInput t).busLog = s.busLog := rfl
@[simp] theorem State.popInput_hostLog (s : State) (t : List Input) : (s.popInput t).hostLog = s.hostLog := rfl
@[simp] theorem State.popInput_draws (s : State) (t : List Input) : (s.popInput t).draws = s.draws := rfl
@[simp] theorem State.popInput_inputs (s : State) (t : List Input) : (s.popInput t).inputs = t := rfl
@[simp] theorem State.popInput_clkOk (s : State) (t : List Input) : (s.popInput t).clkOk = s.clkOk := rfl
@[simp] theorem State.popInput_chan (s : State) (t : List Input) (d : Chan) : (s.popInput t).chan d = s.chan d := rfl

@[simp] theorem State.nextDraw_params (s : State) : (s.nextDraw).params = s.params := rfl
@[simp] theorem State.nextDraw_chans (s : State) : (s.nextDraw).chans = s.chans := rfl
@[simp] theorem State.nextDraw_numEnabled (s : State) : (s.nextDraw).numEnabled = s.numEnabled := rfl
@[simp] theorem State.nextDraw_clk0 (s : State) : (s.nextDraw).clk0 = s.clk0 := rfl
@[simp] theorem State.nextDraw_clk1 (s : State) : (s.nextDraw).clk1 = s.clk1 := rfl
@[simp] theorem State.nextDraw_active (s : State) : (s.nextDraw).active = s.active := rfl
@[simp] theorem State.nextDraw_ctxN (s : State) : (s.nextDraw).ctxN = s.ctxN := rfl
@[simp] theorem State.nextDraw_ctxI (s : State) : (s.nextDraw).ctxI = s.ctxI := rfl
@[simp] theorem State.nextDraw_mem (s : State) : (s.nextDraw).mem = s.mem := rfl
@[simp] theorem State.nextDraw_clkLog (s : State) : (s.nextDraw).clkLog = s.clkLog := rfl
@[simp] theorem State.nextDraw_cbLog (s : State) : (s.nextDraw).cbLog = s.cbLog := rfl
@[simp] theorem State.nextDraw_memLog (s : State) : (s.nextDraw).memLog = s.memLog := rfl
@[simp] theorem State.nextDraw_perLog (s : State) : (s.nextDraw).perLog = s.perLog := rfl
@[simp] theorem State.nextDraw_respLog (s : State) : (s.nextDraw).respLog = s.respLog := rfl
@[simp] theorem State.nextDraw_busLog (s : State) : (s.nextDraw).busLog = s.busLog := rfl
@[simp] theorem State.nextDraw_hostLog (s : State) : (s.nextDraw).hostLog = s.hostLog := rfl
@[simp] theorem State.nextDraw_draws (s : State) : (s.nextDraw).draws = s.draws + 1 := rfl
@[simp] theorem State.nextDraw_inputs (s : State) : (s.nextDraw).inputs = s.inputs := rfl
@[simp] theorem State.nextDraw_clkOk (s : State) : (s.nextDraw).clkOk = s.clkOk := rfl
@[simp] theorem State.nextDraw_chan (s : State) (d : Chan) : (s.nextDraw).chan d = s.chan d := rfl

/-- Reading the channel that was replaced. -/
@[simp] theorem State.setChan_chan_same (s : State) (c : Chan) (x : Channel) : (s.setChan c x).chan c = x := by
  simp [State.setChan, State.chan]

/-- Reading another channel than the one that was replaced. -/
theorem State.setChan_chan_other (s : State) (c d : Chan) (x : Channel) (h : d ≠ c) :
    (s.setChan c x).chan d = s.chan d := by
  simp only [State.setChan, State.chan, Fin.getElem_fin]
  exact Vector.getElem_set_ne _ _ fun e => h (Fin.ext e.symm)

/-- Both cases of reading a channel after one was replaced. -/
theorem State.setChan_chan (s : State) (c d : Chan) (x : Channel) :
    (s.setChan c x).chan d = if d = c then x else s.chan d := by
  by_cases h : d = c
  · subst h; simp
  · simp [h, State.setChan_chan_other]

/-- Replacing a channel twice keeps the second. -/
@[simp] theorem State.setChan_setChan (s : State) (c : Chan) (x y : Channel) :
    (s.setChan c x).setChan c y = s.setChan c y := by
  simp [State.setChan]

/-- Replacing a channel by itself changes nothing. -/
@[simp] theorem State.setChan_chan_self (s : State) (c : Chan) : s.setChan c (s.chan c) = s := by
  simp [State.setChan, State.chan]

/-- Two states with the same channels everywhere have the same channel vector. -/
theorem State.chans_ext {s t : State} (h : ∀ c, s.chan c = t.chan c) : s.chans = t.chans := by
  apply Vector.ext
  intro i hi
  exact h ⟨i, hi⟩

end Sys2Proof.Machine
end

