-- ==== Sys2Proof/Laws/Ops.lean ====
section
/-! SUPPORT. One lemma per shared operation that says once what it can do, to be cited instead of unfolding it. -/

namespace Sys2Proof.Machine

/-! ### The computed bits -/

/-- The reload does nothing where INV5 holds already (R200). -/
theorem Channel.normalise_of_settled {ch : Channel} (h : ch.settled) : ch.normalise = ch := by
  unfold Channel.normalise
  split
  · rename_i h2; exact absurd (h h2.1) h2.2
  · rfl

/-- After the reload no count waits behind an empty one (R200, INV5). -/
theorem Channel.normalise_settled (ch : Channel) : ch.normalise.settled := by
  unfold Channel.normalise Channel.settled
  split <;> simp_all

/-- The reload touches `MAR`, `TCR` and `TCRR` only (R200). -/
theorem Channel.normalise_cases (ch : Channel) :
    ch.normalise = ch ∨ ch.normalise = { ch with mar := ch.marr, tcr := ch.tcrr, tcrr := 0 } := by
  unfold Channel.normalise
  split <;> simp

@[simp] theorem Channel.normalise_psr (ch : Channel) : ch.normalise.psr = ch.psr := by
  rcases ch.normalise_cases with h | h <;> rw [h]
@[simp] theorem Channel.normalise_marr (ch : Channel) : ch.normalise.marr = ch.marr := by
  rcases ch.normalise_cases with h | h <;> rw [h]
@[simp] theorem Channel.normalise_mr (ch : Channel) : ch.normalise.mr = ch.mr := by
  rcases ch.normalise_cases with h | h <;> rw [h]
@[simp] theorem Channel.normalise_ten (ch : Channel) : ch.normalise.ten = ch.ten := by
  rcases ch.normalise_cases with h | h <;> rw [h]
@[simp] theorem Channel.normalise_imr (ch : Channel) : ch.normalise.imr = ch.imr := by
  rcases ch.normalise_cases with h | h <;> rw [h]
@[simp] theorem Channel.normalise_terr (ch : Channel) : ch.normalise.terr = ch.terr := by
  rcases ch.normalise_cases with h | h <;> rw [h]
@[simp] theorem Channel.normalise_cb (ch : Channel) : ch.normalise.cb = ch.cb := by
  rcases ch.normalise_cases with h | h <;> rw [h]
@[simp] theorem Channel.normalise_width (ch : Channel) : ch.normalise.width = ch.width := by
  rcases ch.normalise_cases with h | h <;> rw [h]
@[simp] theorem Channel.normalise_en (ch : Channel) : ch.normalise.en = ch.en := by
  rcases ch.normalise_cases with h | h <;> rw [h]
@[simp] theorem Channel.normalise_slot (ch : Channel) : ch.normalise.slot = ch.slot := by
  rcases ch.normalise_cases with h | h <;> rw [h]
@[simp] theorem Channel.normalise_fsm (ch : Channel) : ch.normalise.fsm = ch.fsm := by
  rcases ch.normalise_cases with h | h <;> rw [h]
@[simp] theorem Channel.normalise_pend (ch : Channel) : ch.normalise.pend = ch.pend := by
  rcases ch.normalise_cases with h | h <;> rw [h]

@[simp] theorem Channel.latch_mar (x y : Channel) : (x.latch y).mar = y.mar := rfl
@[simp] theorem Channel.latch_psr (x y : Channel) : (x.latch y).psr = y.psr := rfl
@[simp] theorem Channel.latch_tcr (x y : Channel) : (x.latch y).tcr = y.tcr := rfl
@[simp] theorem Channel.latch_marr (x y : Channel) : (x.latch y).marr = y.marr := rfl
@[simp] theorem Channel.latch_tcrr (x y : Channel) : (x.latch y).tcrr = y.tcrr := rfl
@[simp] theorem Channel.latch_mr (x y : Channel) : (x.latch y).mr = y.mr := rfl
@[simp] theorem Channel.latch_ten (x y : Channel) : (x.latch y).ten = y.ten := rfl
@[simp] theorem Channel.latch_imr (x y : Channel) : (x.latch y).imr = y.imr := rfl
@[simp] theorem Channel.latch_terr (x y : Channel) : (x.latch y).terr = y.terr := rfl
@[simp] theorem Channel.latch_cb (x y : Channel) : (x.latch y).cb = y.cb := rfl
@[simp] theorem Channel.latch_width (x y : Channel) : (x.latch y).width = y.width := rfl
@[simp] theorem Channel.latch_en (x y : Channel) : (x.latch y).en = y.en := rfl
@[simp] theorem Channel.latch_slot (x y : Channel) : (x.latch y).slot = y.slot := rfl
@[simp] theorem Channel.latch_fsm (x y : Channel) : (x.latch y).fsm = y.fsm := rfl
@[simp] theorem Channel.latch_pend (x y : Channel) : (x.latch y).pend = (y.pend || (!x.line && y.line)) := rfl
@[simp] theorem Channel.latch_line (x y : Channel) : (x.latch y).line = y.line := rfl

/-- Where the line does not rise the latch changes nothing (R221). -/
theorem Channel.latch_of_no_edge {x y : Channel} (h : y.line = true → x.line = true) : x.latch y = y := by
  unfold Channel.latch
  cases hy : y.line <;> simp_all

/-- The line depends on the mask, the two counts and the error latch only (R220, R33). -/
theorem Channel.line_congr {x y : Channel} (h1 : x.imr = y.imr) (h2 : x.tcr = y.tcr) (h3 : x.tcrr = y.tcrr)
    (h4 : x.terr = y.terr) : x.line = y.line := by
  unfold Channel.line Channel.isr
  rw [h1, h2, h3, h4]

/-- With every source masked the line is low (R220). -/
theorem Channel.line_of_masked {ch : Channel} (h : ch.imr = 0) : ch.line = false := by
  unfold Channel.line
  rw [h]
  simp

/-- Masking sources never raises the line (R142). -/
theorem Channel.line_mono_imr {x y : Channel} (m : BitVec 3) (h1 : y.imr = x.imr &&& m) (h2 : y.tcr = x.tcr)
    (h3 : y.tcrr = x.tcrr) (h4 : y.terr = x.terr) : y.line = true → x.line = true := by
  unfold Channel.line
  have e : y.isr = x.isr := by unfold Channel.isr; rw [h2, h3, h4]
  rw [h1, e]
  generalize x.isr = i
  generalize x.imr = j
  clear h1 h2 h3 h4 e
  revert i j m
  decide

/-! ### Register writes and reads -/

/-- A write to a read-only register leaves the channel alone (R138, R144, R146). -/
theorem channelWrite_readOnly (r : Reg) (v : Word) (ch : Channel) (h : r = .sr ∨ r = .imr ∨ r = .isr) :
    channelWrite r v ch = ch := by
  rcases h with h | h | h <;> subst h <;> rfl

/-- Every landed write of another register: the update, the reload, the pending latch (R120). -/
theorem channelWrite_eq (r : Reg) (v : Word) (ch : Channel) (h : r ≠ .sr ∧ r ≠ .imr ∧ r ≠ .isr) :
    channelWrite r v ch = ch.latch (regUpdate r v ch).normalise := by
  cases r <;> simp_all [channelWrite]

/-- No register write touches the engine side of its channel (R120). -/
theorem channelWrite_engine (r : Reg) (v : Word) (ch : Channel) :
    (channelWrite r v ch).cb = ch.cb ∧ (channelWrite r v ch).width = ch.width ∧ (channelWrite r v ch).en = ch.en ∧
      (channelWrite r v ch).slot = ch.slot ∧ (channelWrite r v ch).fsm = ch.fsm := by
  cases r <;> simp [channelWrite, regUpdate] <;> (split <;> simp)

@[simp] theorem channelWrite_cb (r : Reg) (v : Word) (ch : Channel) : (channelWrite r v ch).cb = ch.cb :=
  (channelWrite_engine r v ch).1
@[simp] theorem channelWrite_width (r : Reg) (v : Word) (ch : Channel) : (channelWrite r v ch).width = ch.width :=
  (channelWrite_engine r v ch).2.1
@[simp] theorem channelWrite_en (r : Reg) (v : Word) (ch : Channel) : (channelWrite r v ch).en = ch.en :=
  (channelWrite_engine r v ch).2.2.1
@[simp] theorem channelWrite_slot (r : Reg) (v : Word) (ch : Channel) : (channelWrite r v ch).slot = ch.slot :=
  (channelWrite_engine r v ch).2.2.2.1
@[simp] theorem channelWrite_fsm (r : Reg) (v : Word) (ch : Channel) : (channelWrite r v ch).fsm = ch.fsm :=
  (channelWrite_engine r v ch).2.2.2.2

/-- `pend` after a landed write: set by a rising line, never cleared (R221). -/
theorem channelWrite_pend (r : Reg) (v : Word) (ch : Channel) :
    (channelWrite r v ch).pend = (ch.pend || (!ch.line && (channelWrite r v ch).line)) := by
  cases r <;> simp [channelWrite, regUpdate] <;> split <;> simp

/-- A landed write leaves a settled channel settled (INV5). -/
theorem channelWrite_settled (r : Reg) (v : Word) {ch : Channel} (h : ch.settled) : (channelWrite r v ch).settled := by
  cases r <;> first | exact h | exact Channel.normalise_settled _

/-- What a register write does to its channel: it lands or it is dropped (R120, R121). -/
theorem regWrite_chan_same (c : Chan) (r : Reg) (v : Word) (s : State) :
    (regWrite c r v s).chan c = if s.writeLands then channelWrite r v (s.chan c) else s.chan c := by
  unfold regWrite State.afterWriteDraw
  by_cases h : s.writeLands
  all_goals
    simp only [h, if_true, if_false, Bool.false_eq_true]
    split
    · first | rfl | simp
    · split <;> first | rfl | simp

/-- A register write does not touch another channel (R120). -/
theorem regWrite_chan_other (c d : Chan) (r : Reg) (v : Word) (s : State) (h : d ≠ c) :
    (regWrite c r v s).chan d = s.chan d := by
  unfold regWrite State.afterWriteDraw
  by_cases hl : s.writeLands <;> simp [hl, State.setChan_chan_other _ _ _ _ h] <;> split <;> try rfl
  all_goals (split <;> rfl)

/-- A register write on a clocked block (R120). -/
theorem regWrite_clocked (c : Chan) (r : Reg) (v : Word) {s : State} (h : s.clkOk = true) :
    regWrite c r v s = (s.setChan c (channelWrite r v (s.chan c))).logBus (.wr c r v) := by
  simp [regWrite, State.writeLands, State.afterWriteDraw, h]

/-- A register write in full: the channel, the draw and the register traffic, nothing else (R120, R121). -/
theorem regWrite_eq (c : Chan) (r : Reg) (v : Word) (s : State) :
    ∃ d, (s.clkOk = true → d = s.draws) ∧ regWrite c r v s =
      ({ s with draws := d }.setChan c (if s.writeLands then channelWrite r v (s.chan c) else s.chan c)).logBus
        (.wr c r v) := by
  refine ⟨s.afterWriteDraw.draws, ?_, ?_⟩
  · intro h; simp [State.afterWriteDraw, h]
  · have e : s.afterWriteDraw = { s with draws := s.afterWriteDraw.draws } := by
      unfold State.afterWriteDraw
      split
      · rfl
      · split <;> rfl
    unfold regWrite
    split
    · rw [e]
    · rw [e]
      have := State.setChan_chan_self { s with draws := s.afterWriteDraw.draws } c
      exact congrArg (State.logBus · _) this.symm

@[simp] theorem regWrite_params (c : Chan) (r : Reg) (v : Word) (s : State) : (regWrite c r v s).params = s.params := by
  obtain ⟨d, -, e⟩ := regWrite_eq c r v s; rw [e]; rfl
@[simp] theorem regWrite_numEnabled (c : Chan) (r : Reg) (v : Word) (s : State) :
    (regWrite c r v s).numEnabled = s.numEnabled := by obtain ⟨d, -, e⟩ := regWrite_eq c r v s; rw [e]; rfl
@[simp] theorem regWrite_clk0 (c : Chan) (r : Reg) (v : Word) (s : State) : (regWrite c r v s).clk0 = s.clk0 := by
  obtain ⟨d, -, e⟩ := regWrite_eq c r v s; rw [e]; rfl
@[simp] theorem regWrite_clk1 (c : Chan) (r : Reg) (v : Word) (s : State) : (regWrite c r v s).clk1 = s.clk1 := by
  obtain ⟨d, -, e⟩ := regWrite_eq c r v s; rw [e]; rfl
@[simp] theorem regWrite_clkOk (c : Chan) (r : Reg) (v : Word) (s : State) : (regWrite c r v s).clkOk = s.clkOk := by
  obtain ⟨d, -, e⟩ := regWrite_eq c r v s; rw [e]; rfl
@[simp] theorem regWrite_active (c : Chan) (r : Reg) (v : Word) (s : State) : (regWrite c r v s).active = s.active := by
  obtain ⟨d, -, e⟩ := regWrite_eq c r v s; rw [e]; rfl
@[simp] theorem regWrite_ctxN (c : Chan) (r : Reg) (v : Word) (s : State) : (regWrite c r v s).ctxN = s.ctxN := by
  obtain ⟨d, -, e⟩ := regWrite_eq c r v s; rw [e]; rfl
@[simp] theorem regWrite_ctxI (c : Chan) (r : Reg) (v : Word) (s : State) : (regWrite c r v s).ctxI = s.ctxI := by
  obtain ⟨d, -, e⟩ := regWrite_eq c r v s; rw [e]; rfl
@[simp] theorem regWrite_mem (c : Chan) (r : Reg) (v : Word) (s : State) : (regWrite c r v s).mem = s.mem := by
  obtain ⟨d, -, e⟩ := regWrite_eq c r v s; rw [e]; rfl
@[simp] theorem regWrite_clkLog (c : Chan) (r : Reg) (v : Word) (s : State) : (regWrite c r v s).clkLog = s.clkLog := by
  obtain ⟨d, -, e⟩ := regWrite_eq c r v s; rw [e]; rfl
@[simp] theorem regWrite_cbLog (c : Chan) (r : Reg) (v : Word) (s : State) : (regWrite c r v s).cbLog = s.cbLog := by
  obtain ⟨d, -, e⟩ := regWrite_eq c r v s; rw [e]; rfl
@[simp] theorem regWrite_memLog (c : Chan) (r : Reg) (v : Word) (s : State) : (regWrite c r v s).memLog = s.memLog := by
  obtain ⟨d, -, e⟩ := regWrite_eq c r v s; rw [e]; rfl
@[simp] theorem regWrite_perLog (c : Chan) (r : Reg) (v : Word) (s : State) : (regWrite c r v s).perLog = s.perLog := by
  obtain ⟨d, -, e⟩ := regWrite_eq c r v s; rw [e]; rfl
@[simp] theorem regWrite_respLog (c : Chan) (r : Reg) (v : Word) (s : State) :
    (regWrite c r v s).respLog = s.respLog := by obtain ⟨d, -, e⟩ := regWrite_eq c r v s; rw [e]; rfl
@[simp] theorem regWrite_busLog (c : Chan) (r : Reg) (v : Word) (s : State) :
    (regWrite c r v s).busLog = s.busLog ++ [.wr c r v] := by obtain ⟨d, -, e⟩ := regWrite_eq c r v s; rw [e]; rfl
@[simp] theorem regWrite_hostLog (c : Chan) (r : Reg) (v : Word) (s : State) :
    (regWrite c r v s).hostLog = s.hostLog := by obtain ⟨d, -, e⟩ := regWrite_eq c r v s; rw [e]; rfl
@[simp] theorem regWrite_inputs (c : Chan) (r : Reg) (v : Word) (s : State) : (regWrite c r v s).inputs = s.inputs := by
  obtain ⟨d, -, e⟩ := regWrite_eq c r v s; rw [e]; rfl

/-- A register read in full: the word, the draw and the register traffic (R120, R121). -/
theorem regRead_eq (c : Chan) (r : Reg) (s : State) :
    ∃ d, regRead c r s = (s.readWord c r, { s with draws := d }.logBus (.rd c r (s.readWord c r))) := by
  refine ⟨if s.readDraws c r then s.draws + 1 else s.draws, ?_⟩
  unfold regRead
  split <;> rfl

/-- A register read of a readable register on a clocked block (R123 to R145). -/
theorem regRead_clocked (c : Chan) (r : Reg) {s : State} (v : Word) (h : s.clkOk = true)
    (hv : readValue r (s.chan c) = some v) : regRead c r s = (v, s.logBus (.rd c r v)) := by
  simp [regRead, State.readWord, State.readDraws, State.readReliable, h, hv]

/-! ### Clocks and the shared counter -/

/-- Requesting a clock domain turns it on and is logged (R161). -/
theorem enableClock_eq (d : Domain) (s : State) : enableClock d s =
    { s with clk0 := s.clk0 || d == .d0, clk1 := s.clk1 || d == .d1, clkLog := s.clkLog ++ [⟨true, d⟩] } := by
  cases d <;> simp [enableClock, State.logClk]

/-- Releasing a clock domain turns it off and is logged (R161). -/
theorem disableClock_eq (d : Domain) (s : State) : disableClock d s =
    { s with clk0 := s.clk0 && d != .d0, clk1 := s.clk1 && d != .d1, clkLog := s.clkLog ++ [⟨false, d⟩] } := by
  cases d <;> simp [disableClock, State.logClk]

/-- The decrement of the shared counter: the value before and one less, or the fault at 0 (R160, R244). -/
theorem fetchSub_cases (s : State) :
    (s.numEnabled = 0 ∧ fetchSub s = none) ∨
    (s.numEnabled ≠ 0 ∧ fetchSub s = some (s.numEnabled, { s with numEnabled := s.numEnabled - 1 })) := by
  by_cases h : s.numEnabled = 0
  · exact .inl ⟨h, by simp [fetchSub, h]⟩
  · exact .inr ⟨h, by simp only [fetchSub, if_neg h]⟩

/-- The increment of the shared counter changes nothing else (R160). -/
theorem fetchAdd_eq (s : State) : fetchAdd s = { s with numEnabled := s.numEnabled + 1 } := rfl

/-! ### Micro-steps -/

/-- Running a sequence of micro-steps one at a time (R12). -/
theorem runMicros_cons (m : Micro) (ms : List Micro) (l : Locals) (s : State) :
    runMicros (m :: ms) l s = (match m l s with
      | (t, .go l') => runMicros ms l' t
      | (t, .done r) => (t, r)) := by
  rcases h : m l s with ⟨t, l' | r⟩ <;> simp only [runMicros, h]

/-- A micro-step that only changes the state is followed by the rest (R12). -/
@[simp] theorem runMicros_act (f : State → State) (ms : List Micro) (l : Locals) (s : State) :
    runMicros (act f :: ms) l s = runMicros ms l (f s) := rfl

/-- No micro-steps left: the response is `OK` (R104). -/
@[simp] theorem runMicros_nil (l : Locals) (s : State) : runMicros [] l s = (s, some respOk) := rfl

/-- The end of an operation appends its response and changes nothing else (R45). -/
theorem complete_eq (op : Instr) (r : Option Resp) (s : State) :
    complete op r s = { s with respLog := s.respLog ++ (r.map (RespEvent.mk op)).toList } := by
  cases r <;> simp [complete, State.logResp]

/-- A whole operation: its micro-steps, then its response (R12, R240). -/
theorem runOp_eq (op : Instr) (ms : List Micro) (s : State) : runOp op ms s =
    { (runMicros ms {} s).1 with
      respLog := (runMicros ms {} s).1.respLog ++ ((runMicros ms {} s).2.map (RespEvent.mk op)).toList } := by
  rw [runOp, complete_eq]

/-- One micro-step of a position: it goes on at the next index, or the operation is over with a response (R44, R240). -/
theorem stepFrame_cases (f : Frame) (s : State) :
    (∃ t r, stepFrame f s = (complete f.op r t, none)) ∨
    (∃ m t l, (program f.op)[f.idx]? = some m ∧ m f.loc s = (t, .go l) ∧ f.idx + 1 < (program f.op).length ∧
      stepFrame f s = (t, some ⟨f.op, f.idx + 1, l⟩)) := by
  unfold stepFrame
  split
  · exact .inl ⟨s, _, rfl⟩
  · rename_i m hm
    split
    · rename_i t r _; exact .inl ⟨t, r, rfl⟩
    · rename_i t l hl
      split
      · rename_i hlt; exact .inr ⟨m, t, l, hm, hl, hlt, rfl⟩
      · exact .inl ⟨t, _, rfl⟩

/-! ### The data mover -/

/-- A mover's step: nothing, or the element move of the selected width and direction (R201, R202). -/
theorem moverStep_cases (c : Chan) (ready : Bool) (elem : Word) (s : State) :
    moverStep c ready elem s = s ∨
    ∃ w d, moverEnabled s c ready = true ∧ modeWidth (s.chan c).mr = some w ∧ pidDir s.params (s.chan c).psr = some d ∧
      moverStep c ready elem s = moveElement c (widthBytes w) d elem s := by
  unfold moverStep
  split
  · rename_i h
    split
    · rename_i w d hw hd; exact .inr ⟨w, d, h, hw, hd, rfl⟩
    · exact .inl rfl
  · exact .inl rfl

/-- An element move: an admitted RX move, an admitted TX move, or a refused access (R202, R205). -/
theorem moveElement_cases (c : Chan) (n : Nat) (d : Direction) (elem : Word) (s : State) :
    (d = .rx ∧ admits s.params .write (s.chan c).mar n = true ∧ moveElement c n d elem s = moveRx c n (elemValue n elem) s) ∨
    (d = .tx ∧ admits s.params .read (s.chan c).mar n = true ∧ moveElement c n d elem s = moveTx c n s) ∨
    ∃ k, admits s.params k (s.chan c).mar n = false ∧ moveElement c n d elem s = refuseMove c k n s := by
  cases d with
  | rx =>
    by_cases h : admits s.params .write (s.chan c).mar n = true
    · exact .inl ⟨rfl, h, by simp [moveElement, h]⟩
    · exact .inr (.inr ⟨.write, by simpa using h, by simp [moveElement, h]⟩)
  | tx =>
    by_cases h : admits s.params .read (s.chan c).mar n = true
    · exact .inr (.inl ⟨rfl, h, by simp [moveElement, h]⟩)
    · exact .inr (.inr ⟨.read, by simpa using h, by simp [moveElement, h]⟩)

/-! ### Interrupt entry and return -/

/-- Taking a completion interrupt: `pend` of the channel, `active` and `ctxI` only (R222, R252). -/
theorem takeInterrupt_eq (c : Chan) (s : State) : takeInterrupt c s =
    { s.setChan c { s.chan c with pend := false } with
      active := some c, ctxI := .running (Frame.start (.irq c)) none } := rfl

/-- Returning from a handler: `active` and `ctxI` only (R225, R253). -/
theorem returnFromInterrupt_eq (s : State) : returnFromInterrupt s = { s with active := none, ctxI := .idle } := rfl

/-! ### The host -/

/-- A host access: it goes on with its effect and one entry of the host's log, or it stops without an effect (R72, R276). -/
theorem hostAccess_cases (k : Access) (a : Word) (b : Byte) (f : State → State) (s : State) :
    (hostRuns s = true ∧ allocated s.params a.toNat = true ∧
      hostAccess k a b f s = .next ((f s).logHost ⟨k, a, b, owned s a⟩)) ∨
    (hostRuns s = true ∧ allocated s.params a.toNat = false ∧ hostAccess k a b f s = .fault .outsideMemory) ∨
    (hostRuns s = false ∧ hostAccess k a b f s = .fault .contextBusy) := by
  unfold hostAccess
  cases hostRuns s <;> cases allocated s.params a.toNat <;> simp

/-- A byte is owned where it lies in an occupied slot's buffer or in one that an operation in progress has taken (R72). -/
theorem owned_iff (s : State) (a : Word) : owned s a = true ↔
    (∃ c b, (s.chan c).slot = some b ∧ Buffer.holds b a = true) ∨ ∃ f ∈ s.frames, ∃ b, takenBuffer f = some b ∧ Buffer.holds b a = true := by
  have e : ∀ o : Option Buffer, (o.map fun b => Buffer.holds b a).getD false = true ↔ ∃ b, o = some b ∧ Buffer.holds b a = true := by
    intro o; cases o <;> simp
  simp only [owned, Bool.or_eq_true, List.any_eq_true, e, List.mem_finRange, true_and]

end Sys2Proof.Machine
end

