-- ==== Sys2Proof/Laws/PerInstr.lean ====
section
/-! SUPPORT. The family `EncodesTableRow`: the encoding of every instruction, under the suggested parameters the opcode table is
written for (30_encoding.md R110), has the bits that spec/opcode_table.json fixes in its row. -/

namespace Sys2Proof.Laws

open Sys2Proof

/-- The fixed bits of a table row: mask and match of a REG header, or of a CMD word. -/
inductive Row where
  | reg (mask value : BitVec 33)
  | cmd (mask value : BitVec 128)
deriving DecidableEq, Repr

/-- A row of a REG primitive: the header bits but the channel's (30_encoding.md R93). -/
def regRow (value : BitVec 33) : Row := .reg 0x1FFFFFC3F value

/-- A row of an operation that uses `CH` only (30_encoding.md R100). -/
def channelRow (op : BitVec 128) : Row := .cmd 0xFFFFFFFFFFFFFFFFFFFFFFFFFFFFFF0F op

/-- Mask and match of every instruction's row, as spec/opcode_table.json has them. -/
def tableRow (i : Instr) : Row :=
  match i with
  | .rdMar _ => regRow 0x400A2000
  | .wrMar _ _ => regRow 0x1400A2000
  | .rdPsr _ => regRow 0x400A2004
  | .wrPsr _ _ => regRow 0x1400A2004
  | .rdTcr _ => regRow 0x400A2008
  | .wrTcr _ _ => regRow 0x1400A2008
  | .rdMarr _ => regRow 0x400A200C
  | .wrMarr _ _ => regRow 0x1400A200C
  | .rdTcrr _ => regRow 0x400A2010
  | .wrTcrr _ _ => regRow 0x1400A2010
  | .rdCr _ => regRow 0x400A2014
  | .wrCr _ _ => regRow 0x1400A2014
  | .rdMr _ => regRow 0x400A2018
  | .wrMr _ _ => regRow 0x1400A2018
  | .rdSr _ => regRow 0x400A201C
  | .wrSr _ _ => regRow 0x1400A201C
  | .rdIer _ => regRow 0x400A2020
  | .wrIer _ _ => regRow 0x1400A2020
  | .rdIdr _ => regRow 0x400A2024
  | .wrIdr _ _ => regRow 0x1400A2024
  | .rdImr _ => regRow 0x400A2028
  | .wrImr _ _ => regRow 0x1400A2028
  | .rdIsr _ => regRow 0x400A202C
  | .wrIsr _ _ => regRow 0x1400A202C
  | .new _ => channelRow 0x0
  | .init _ _ _ => .cmd 0xFFFFFFFFFFFFFFFF00000000FFFCFF0F 0x1
  | .enable _ => channelRow 0x2
  | .disable _ => channelRow 0x3
  | .isen _ => channelRow 0x4
  | .prepare _ _ _ _ => .cmd 0xFFFF000F 0x5
  | .start _ => channelRow 0x6
  | .xfer _ _ _ _ => .cmd 0xFFFF000F 0x7
  | .irq _ => channelRow 0x8
  | .abort _ => channelRow 0x9
  | .count _ => channelRow 0xA

/-- A request has the fixed bits of a row. -/
def Row.fits (row : Row) (q : Request) : Prop :=
  match row, q with
  | .reg mask value, .reg header _ _ => header &&& mask = value
  | .cmd mask value, .cmd x => x &&& mask = value
  | .reg _ _, .cmd _ => False
  | .cmd _ _, .reg _ _ _ => False

/-- The encoding of an instruction fits its row of the opcode table. -/
def EncodesTableRow.Statement (i : Instr) : Prop := (tableRow i).fits (encode Config.suggested i)

/-- Masking a CMD word masks its fields (30_encoding.md R100). -/
theorem cmdWord_and (f g : CmdFields) : cmdWord f &&& cmdWord g =
    cmdWord ⟨f.op &&& g.op, f.ch &&& g.ch, f.pid &&& g.pid, f.w &&& g.w, f.z &&& g.z, f.a &&& g.a, f.blen &&& g.blen,
      f.rlen &&& g.rlen⟩ := by
  have step : ∀ {n m : Nat} {x y z : BitVec n} {u v : BitVec m}, x &&& y = z → (x ++ u) &&& (y ++ v) = z ++ (u &&& v) :=
    fun h => by rw [BitVec.and_append, h]
  exact step (step (step (step (step (step (step rfl))))))

/-- A word that uses `CH` only fits a row of that shape (30_encoding.md R100). -/
theorem channelRow_fits (op : BitVec 4) (c : Chan) : (channelRow (op.setWidth 128)).fits (channelCmd op c) := by
  have : ∀ (op : BitVec 4) (c : Chan), cmdWord ⟨op, chanField c, 0, 0, 0, 0, 0, 0⟩ &&& 0xFFFFFFFFFFFFFFFFFFFFFFFFFFFFFF0F =
      op.setWidth 128 := by decide +kernel
  exact this op c

/-- The header of an access fits the row of its register at every channel (30_encoding.md R93). -/
theorem regRow_fits (we : Bool) (r : Reg) (c : Chan) (d : Option Word) (value : BitVec 33)
    (h : regHeader Config.suggested we 0 r = value) : (regRow value).fits (.reg (regHeader Config.suggested we c r) d 32) := by
  subst h
  have : ∀ (we : Bool) (c : Chan), regHeader Config.suggested we c r &&& 0x1FFFFFC3F = regHeader Config.suggested we 0 r := by
    cases r <;> decide +kernel
  exact this we c

theorem EncodesTableRow.rdMar (c : Chan) : EncodesTableRow.Statement (.rdMar c) :=
  regRow_fits false .mar c none _ (by decide +kernel)
theorem EncodesTableRow.wrMar (c : Chan) (v : Word) : EncodesTableRow.Statement (.wrMar c v) :=
  regRow_fits true .mar c (some v) _ (by decide +kernel)
theorem EncodesTableRow.rdPsr (c : Chan) : EncodesTableRow.Statement (.rdPsr c) :=
  regRow_fits false .psr c none _ (by decide +kernel)
theorem EncodesTableRow.wrPsr (c : Chan) (v : Word) : EncodesTableRow.Statement (.wrPsr c v) :=
  regRow_fits true .psr c (some v) _ (by decide +kernel)
theorem EncodesTableRow.rdTcr (c : Chan) : EncodesTableRow.Statement (.rdTcr c) :=
  regRow_fits false .tcr c none _ (by decide +kernel)
theorem EncodesTableRow.wrTcr (c : Chan) (v : Word) : EncodesTableRow.Statement (.wrTcr c v) :=
  regRow_fits true .tcr c (some v) _ (by decide +kernel)
theorem EncodesTableRow.rdMarr (c : Chan) : EncodesTableRow.Statement (.rdMarr c) :=
  regRow_fits false .marr c none _ (by decide +kernel)
theorem EncodesTableRow.wrMarr (c : Chan) (v : Word) : EncodesTableRow.Statement (.wrMarr c v) :=
  regRow_fits true .marr c (some v) _ (by decide +kernel)
theorem EncodesTableRow.rdTcrr (c : Chan) : EncodesTableRow.Statement (.rdTcrr c) :=
  regRow_fits false .tcrr c none _ (by decide +kernel)
theorem EncodesTableRow.wrTcrr (c : Chan) (v : Word) : EncodesTableRow.Statement (.wrTcrr c v) :=
  regRow_fits true .tcrr c (some v) _ (by decide +kernel)
theorem EncodesTableRow.rdCr (c : Chan) : EncodesTableRow.Statement (.rdCr c) :=
  regRow_fits false .cr c none _ (by decide +kernel)
theorem EncodesTableRow.wrCr (c : Chan) (v : Word) : EncodesTableRow.Statement (.wrCr c v) :=
  regRow_fits true .cr c (some v) _ (by decide +kernel)
theorem EncodesTableRow.rdMr (c : Chan) : EncodesTableRow.Statement (.rdMr c) :=
  regRow_fits false .mr c none _ (by decide +kernel)
theorem EncodesTableRow.wrMr (c : Chan) (v : Word) : EncodesTableRow.Statement (.wrMr c v) :=
  regRow_fits true .mr c (some v) _ (by decide +kernel)
theorem EncodesTableRow.rdSr (c : Chan) : EncodesTableRow.Statement (.rdSr c) :=
  regRow_fits false .sr c none _ (by decide +kernel)
theorem EncodesTableRow.wrSr (c : Chan) (v : Word) : EncodesTableRow.Statement (.wrSr c v) :=
  regRow_fits true .sr c (some v) _ (by decide +kernel)
theorem EncodesTableRow.rdIer (c : Chan) : EncodesTableRow.Statement (.rdIer c) :=
  regRow_fits false .ier c none _ (by decide +kernel)
theorem EncodesTableRow.wrIer (c : Chan) (v : Word) : EncodesTableRow.Statement (.wrIer c v) :=
  regRow_fits true .ier c (some v) _ (by decide +kernel)
theorem EncodesTableRow.rdIdr (c : Chan) : EncodesTableRow.Statement (.rdIdr c) :=
  regRow_fits false .idr c none _ (by decide +kernel)
theorem EncodesTableRow.wrIdr (c : Chan) (v : Word) : EncodesTableRow.Statement (.wrIdr c v) :=
  regRow_fits true .idr c (some v) _ (by decide +kernel)
theorem EncodesTableRow.rdImr (c : Chan) : EncodesTableRow.Statement (.rdImr c) :=
  regRow_fits false .imr c none _ (by decide +kernel)
theorem EncodesTableRow.wrImr (c : Chan) (v : Word) : EncodesTableRow.Statement (.wrImr c v) :=
  regRow_fits true .imr c (some v) _ (by decide +kernel)
theorem EncodesTableRow.rdIsr (c : Chan) : EncodesTableRow.Statement (.rdIsr c) :=
  regRow_fits false .isr c none _ (by decide +kernel)
theorem EncodesTableRow.wrIsr (c : Chan) (v : Word) : EncodesTableRow.Statement (.wrIsr c v) :=
  regRow_fits true .isr c (some v) _ (by decide +kernel)
theorem EncodesTableRow.new (c : Chan) : EncodesTableRow.Statement (.new c) :=
  channelRow_fits 0 c
theorem EncodesTableRow.init (c : Chan) (k : Word) (w : Width) : EncodesTableRow.Statement (.init c k w) := by
  have e : (0xFFFFFFFFFFFFFFFF00000000FFFCFF0F : BitVec 128) = cmdWord ⟨0xF, 0, 0xFF, 0, 0x3FFF, 0, 0xFFFFFFFF, 0xFFFFFFFF⟩ := by
    decide +kernel
  change cmdWord _ &&& 0xFFFFFFFFFFFFFFFF00000000FFFCFF0F = 0x1
  rw [e, cmdWord_and]
  simp only [BitVec.ofNat_eq_ofNat, BitVec.and_zero, BitVec.zero_and]
  decide +kernel
theorem EncodesTableRow.enable (c : Chan) : EncodesTableRow.Statement (.enable c) :=
  channelRow_fits 2 c
theorem EncodesTableRow.disable (c : Chan) : EncodesTableRow.Statement (.disable c) :=
  channelRow_fits 3 c
theorem EncodesTableRow.isen (c : Chan) : EncodesTableRow.Statement (.isen c) :=
  channelRow_fits 4 c
theorem EncodesTableRow.prepare (c : Chan) (p : BitVec 8) (b : Buffer) (r : Word) : EncodesTableRow.Statement (.prepare c p b r) := by
  have e : (0xFFFF000F : BitVec 128) = cmdWord ⟨0xF, 0, 0, 3, 0x3FFF, 0, 0, 0⟩ := by decide +kernel
  change cmdWord _ &&& 0xFFFF000F = 0x5
  rw [e, cmdWord_and]
  simp only [BitVec.ofNat_eq_ofNat, BitVec.and_zero]
  decide +kernel
theorem EncodesTableRow.start (c : Chan) : EncodesTableRow.Statement (.start c) :=
  channelRow_fits 6 c
theorem EncodesTableRow.xfer (c : Chan) (p : BitVec 8) (b : Buffer) (r : Word) : EncodesTableRow.Statement (.xfer c p b r) := by
  have e : (0xFFFF000F : BitVec 128) = cmdWord ⟨0xF, 0, 0, 3, 0x3FFF, 0, 0, 0⟩ := by decide +kernel
  change cmdWord _ &&& 0xFFFF000F = 0x7
  rw [e, cmdWord_and]
  simp only [BitVec.ofNat_eq_ofNat, BitVec.and_zero]
  decide +kernel
theorem EncodesTableRow.irq (c : Chan) : EncodesTableRow.Statement (.irq c) :=
  channelRow_fits 8 c
theorem EncodesTableRow.abort (c : Chan) : EncodesTableRow.Statement (.abort c) :=
  channelRow_fits 9 c
theorem EncodesTableRow.count (c : Chan) : EncodesTableRow.Statement (.count c) :=
  channelRow_fits 10 c

end Sys2Proof.Laws
end

