-- ==== Sys2Proof/Tests/Slice0.lean ====
section
/-! SUPPORT. The model's own tests: the WellFormed smoke test, one word of every instruction written out from
30_encoding.md, one or two single steps per instruction with results from 95_test_vectors.md (the vector is named), and
for every obligation with hypotheses a concrete state that meets them. -/

namespace Sys2Proof.Tests

open Sys2Proof Sys2Proof.Machine

set_option Elab.async false

/-! ### Small states -/

/-- A channel after reset with `PSR` drawn as `0xEE`, as 95_test_vectors.md draws it. -/
def quiet : Channel := Channel.reset 0xEE

/-- The start state of 95_test_vectors.md: reset, `PSR` drawn `0xEE`, `CLKOFF_ACCESS = lands`. -/
def base : State := { State.reset with
  params := { Config.suggested with clkOff := .lands }, chans := Vector.replicate 16 quiet }

/-- The block clocked, one channel counted. -/
def on : State := { base with clk0 := true, clk1 := true, numEnabled := 1 }

/-- An enabled, initialised, idle channel. -/
def idle : Channel := { quiet with en := true, fsm := .idle, width := some .byte, cb := some 1 }

/-- A channel in the middle of a Byte TX transfer of `n` elements at 0x20000100 (S-S4 after `start`). -/
def running (n : BitVec 16) : Channel := { idle with
  fsm := .running, slot := some ⟨0x20000100, 64⟩, mar := 0x20000100, marr := 0x20000100, psr := 22, tcr := n, ten := true,
  imr := 0b010 }

/-- A clocked block whose channel `c` is `ch`. -/
def at_ (c : Chan) (ch : Channel) : State := on.setChan c ch

/-- The machine with these inputs to come. -/
def feed (t : List Input) (s : State) : State := { s with inputs := t }

/-- What a next state is checked for. -/
def after (o : Host.Outcome State Fault Refusal) (f : State → Bool) : Bool :=
  match o with
  | .next t => f t
  | .fault _ => false
  | .refused _ => false

/-- The refusal an outcome ends in. -/
def refusal (o : Host.Outcome State Fault Refusal) : Option Refusal :=
  match o with
  | .refused r => some r
  | .next _ => none
  | .fault _ => none

/-- Why a request is turned away. -/
def rejected (e : Except Reject Instr) : Option Reject :=
  match e with
  | .error r => some r
  | .ok _ => none

/-- The instruction a request is decoded to under the suggested parameters. -/
def read (q : Request) : Option Instr :=
  match decode Config.suggested q with
  | .ok i => some i
  | .error _ => none

/-! ### WellFormed (30_encoding.md R105) -/

theorem test_wf_rejects_ten_with_tdis : Instr.wellFormed Config.suggested (.wrCr 0 3) = false := by decide +kernel
theorem test_wf_rejects_etrig : Instr.wellFormed Config.suggested (.wrMr 0 4) = false := by decide +kernel
theorem test_wf_rejects_ring : Instr.wellFormed Config.suggested (.wrMr 0 8) = false := by decide +kernel
theorem test_wf_rejects_size_3 : Instr.wellFormed Config.suggested (.wrMr 0 3) = false := by decide +kernel
theorem test_wf_rejects_prepare_13 : Instr.wellFormed Config.suggested (.prepare 0 13 ⟨0, 0⟩ 0) = false :=
    by decide +kernel
theorem test_wf_rejects_xfer_39 : Instr.wellFormed Config.suggested (.xfer 0 39 ⟨0, 0⟩ 0) = false := by decide +kernel
theorem test_wf_suggested : Config.suggested.wf = true := by decide +kernel

/-! ### Decoding: the word of every instruction, written out from 30_encoding.md R93 and R100 -/

theorem test_decode_rdMar : read (.reg 0x0400A20C0 none 32) = some (.rdMar 3) := by decide +kernel
theorem test_decode_wrMar : read (.reg 0x1400A2280 (some 0x12345) 32) = some (.wrMar 10 0x12345) := by decide +kernel
theorem test_decode_rdPsr : read (.reg 0x0400A2044 none 32) = some (.rdPsr 1) := by decide +kernel
theorem test_decode_wrPsr : read (.reg 0x1400A2204 (some 0x12345) 32) = some (.wrPsr 8 0x12345) := by decide +kernel
theorem test_decode_rdTcr : read (.reg 0x0400A23C8 none 32) = some (.rdTcr 15) := by decide +kernel
theorem test_decode_wrTcr : read (.reg 0x1400A2188 (some 0x12345) 32) = some (.wrTcr 6 0x12345) := by decide +kernel
theorem test_decode_rdMarr : read (.reg 0x0400A234C none 32) = some (.rdMarr 13) := by decide +kernel
theorem test_decode_wrMarr : read (.reg 0x1400A210C (some 0x12345) 32) = some (.wrMarr 4 0x12345) := by decide +kernel
theorem test_decode_rdTcrr : read (.reg 0x0400A22D0 none 32) = some (.rdTcrr 11) := by decide +kernel
theorem test_decode_wrTcrr : read (.reg 0x1400A2090 (some 0x12345) 32) = some (.wrTcrr 2 0x12345) := by decide +kernel
theorem test_decode_rdCr : read (.reg 0x0400A2254 none 32) = some (.rdCr 9) := by decide +kernel
theorem test_decode_wrCr : read (.reg 0x1400A2014 (some 0x101) 32) = some (.wrCr 0 0x101) := by decide +kernel
theorem test_decode_rdMr : read (.reg 0x0400A21D8 none 32) = some (.rdMr 7) := by decide +kernel
theorem test_decode_wrMr : read (.reg 0x1400A2398 (some 0x2) 32) = some (.wrMr 14 0x2) := by decide +kernel
theorem test_decode_rdSr : read (.reg 0x0400A215C none 32) = some (.rdSr 5) := by decide +kernel
theorem test_decode_wrSr : read (.reg 0x1400A231C (some 0x12345) 32) = some (.wrSr 12 0x12345) := by decide +kernel
theorem test_decode_rdIer : read (.reg 0x0400A20E0 none 32) = some (.rdIer 3) := by decide +kernel
theorem test_decode_wrIer : read (.reg 0x1400A22A0 (some 0x12345) 32) = some (.wrIer 10 0x12345) := by decide +kernel
theorem test_decode_rdIdr : read (.reg 0x0400A2064 none 32) = some (.rdIdr 1) := by decide +kernel
theorem test_decode_wrIdr : read (.reg (0b101000000000010100010001000100100 : BitVec 33) (some 0x12345) 32)
    = some (.wrIdr 8 0x12345) := by decide +kernel
theorem test_decode_rdImr : read (.reg 0x0400A23E8 none 32) = some (.rdImr 15) := by decide +kernel
theorem test_decode_wrImr : read (.reg 0x1400A21A8 (some 0x12345) 32) = some (.wrImr 6 0x12345) := by decide +kernel
theorem test_decode_rdIsr : read (.reg (0b001000000000010100010001101101100 : BitVec 33) none 32)
    = some (.rdIsr 13) := by decide +kernel
theorem test_decode_wrIsr : read (.reg 0x1400A212C (some 0x12345) 32) = some (.wrIsr 4 0x12345) := by decide +kernel
theorem test_decode_new : read (.cmd 0x000000000000000000000000000000F0) = some (.new 15) := by decide +kernel
theorem test_decode_init :
    read (.cmd 0b00000000000000000000000000000000000000000000000000000000000000000000000000000000000000000000011100000000000000100000000000110001)
    = some (.init 3 7 .word) := by decide +kernel
theorem test_decode_enable : read (.cmd 0x00000000000000000000000000000032) = some (.enable 3) := by decide +kernel
theorem test_decode_disable : read (.cmd 0x00000000000000000000000000000013) = some (.disable 1) := by decide +kernel
theorem test_decode_isen : read (.cmd 0x00000000000000000000000000000034) = some (.isen 3) := by decide +kernel
theorem test_decode_prepare :
    read (.cmd 0b00000000000000000000000001000000000000000000000000000000010000000010000000000000000000010000000000000000000000000001011000000101)
    = some (.prepare 0 22 ⟨0x20000100, 64⟩ 64) := by decide +kernel
theorem test_decode_start : read (.cmd 0x00000000000000000000000000000006) = some (.start 0) := by decide +kernel
theorem test_decode_xfer : read (.cmd 0x00000064000000282000020000000037)
    = some (.xfer 3 0 ⟨0x20000200, 40⟩ 100) := by decide +kernel
theorem test_decode_irq :
    read (.cmd 0b00000000000000000000000000000000000000000000000000000000000000000000000000000000000000000000000000000000000000000000000001011000)
    = some (.irq 5) := by decide +kernel
theorem test_decode_abort : read (.cmd 0x00000000000000000000000000000029) = some (.abort 2) := by decide +kernel
theorem test_decode_count : read (.cmd 0x0000000000000000000000000000003A) = some (.count 3) := by decide +kernel

/-- T-R27, T-O11 and 30_encoding.md R105: requests that spell nothing, each refused under its name. -/
theorem test_decode_refusals :
    rejected (decode Config.suggested (.reg 0x0400A2030 none 32)) = some .noRegister ∧
    rejected (decode Config.suggested (.reg 0x0400A2002 none 32)) = some .noRegister ∧
    rejected (decode Config.suggested (.reg 0x0400A2400 none 32)) = some .outsideBlock ∧
    rejected (decode Config.suggested (.reg 0x0400A1FFF none 32)) = some .outsideBlock ∧
    rejected (decode Config.suggested (.reg 0x0400A2008 none 8)) = some .accessSize ∧
    rejected (decode Config.suggested (.reg 0x1400A2008 none 32)) = some .dataWord ∧
    rejected (decode Config.suggested (.reg 0x1400A2014 (some 3) 32)) = some .contradictoryCr ∧
    rejected (decode Config.suggested (.reg 0x1400A2018 (some 3) 32)) = some .reservedMode ∧
    rejected (decode Config.suggested (.cmd 0x0B)) = some .reservedOpcode ∧
    rejected (decode Config.suggested (.cmd 0x30001)) = some .reservedWidth ∧
    rejected (decode Config.suggested (.cmd 0x10000000000000002)) = some .unusedField ∧
    rejected (decode Config.suggested (.cmd 0x0D05)) = some .notAPeripheral ∧
    rejected (decode Config.suggested (.cmd 0x2705)) = some .notAPeripheral := by decide +kernel

/-- 30_encoding.md R110: rows of spec/opcode_table.json read as the host numbers them. -/
theorem test_decodeTableWord :
    decodeTableWord 40 0x0400A2000 = some (.rdMar 0) ∧ decodeTableWord 40 0x1400A2014 = some (.wrCr 0 0) ∧
    decodeTableWord 72 0x201400A2018 = some (.wrMr 0 2) ∧ decodeTableWord 128 5 = some (.prepare 0 0 ⟨0, 0⟩ 0) ∧
    decodeTableWord 128 0x0B = none := by decide +kernel

/-- A table row's bits placed by `withFetchWord` are what the very next step from reset runs. -/
theorem test_withFetchWord :
    after (step (State.reset.withFetchWord 128 2)) (fun t => (t.chan 0).en && t.numEnabled == 1 &&
    t.inputs == []) = true ∧
    after (step (State.reset.withFetchWord 40 0x0400A202C)) (fun t => t.inputs == []) = true := by decide +kernel

/-- 95_test_vectors.md S-S5 and T-O8: RESP words written out from 30_encoding.md R104. -/
theorem test_respWord :
    respWord (respBuffer (some ⟨0x20000100, 64⟩)) = 0x000000402000010000000010 ∧
    respWord (respBuffer none) = 0 ∧ respWord (respFault .notInitialized) = 2 ∧ respWord (respValue 7) = 0x700000000 := by
  decide +kernel

/-! ### Register primitives (40_register_access.md) -/

/-- A channel with a different value in every register. -/
def rich : Channel := { running 7 with marr := 0x20000700, tcrr := 3, mr := 2, imr := 0b110, terr := true }

/-- R123. -/
theorem test_rdMar : after (exec (.rdMar 3) (at_ 3 rich))
    (fun t => t.busLog == [.rd 3 .mar 0x20000100]) = true := by decide +kernel
/-- R125. -/
theorem test_rdPsr : after (exec (.rdPsr 3) (at_ 3 rich)) (fun t => t.busLog == [.rd 3 .psr 22]) = true :=
    by decide +kernel
/-- R127. -/
theorem test_rdTcr : after (exec (.rdTcr 3) (at_ 3 rich)) (fun t => t.busLog == [.rd 3 .tcr 7]) = true :=
    by decide +kernel
/-- R129. -/
theorem test_rdMarr : after (exec (.rdMarr 3) (at_ 3 rich))
    (fun t => t.busLog == [.rd 3 .marr 0x20000700]) = true := by decide +kernel
/-- R131. -/
theorem test_rdTcrr : after (exec (.rdTcrr 3) (at_ 3 rich)) (fun t => t.busLog == [.rd 3 .tcrr 3]) = true :=
    by decide +kernel
/-- R135. -/
theorem test_rdMr : after (exec (.rdMr 3) (at_ 3 rich)) (fun t => t.busLog == [.rd 3 .mr 2]) = true := by decide +kernel
/-- R137. -/
theorem test_rdSr : after (exec (.rdSr 3) (at_ 3 rich)) (fun t => t.busLog == [.rd 3 .sr 1]) = true := by decide +kernel
/-- R143. -/
theorem test_rdImr : after (exec (.rdImr 3) (at_ 3 rich)) (fun t => t.busLog == [.rd 3 .imr 6]) = true :=
    by decide +kernel
/-- R145. -/
theorem test_rdIsr : after (exec (.rdIsr 3) (at_ 3 rich)) (fun t => t.busLog == [.rd 3 .isr 4]) = true :=
    by decide +kernel
/-- T-R1: `TRC` and `RCZ` read set on a channel that never ran. -/
theorem test_rdIsr_idle : after (exec (.rdIsr 0) on) (fun t => t.busLog == [.rd 0 .isr 3]) = true := by decide +kernel
/-- T-R26: reads of the write-only ports change nothing of the channel. -/
theorem test_rdCr : after (exec (.rdCr 3) (at_ 3 rich)) (fun t => t.chan 3 == rich && t.draws == 2) = true :=
    by decide +kernel
theorem test_rdIer : after (exec (.rdIer 3) (at_ 3 rich)) (fun t => t.chan 3 == rich && t.draws == 2) = true :=
    by decide +kernel
theorem test_rdIdr : after (exec (.rdIdr 3) (at_ 3 rich)) (fun t => t.chan 3 == rich && t.draws == 2) = true :=
    by decide +kernel
/-- R124. -/
theorem test_wrMar : after (exec (.wrMar 3 0x20000701) (at_ 3 rich))
    (fun t => t.chan 3 == { rich with mar := 0x20000701 }) = true := by
  decide +kernel
/-- T-R12: bits 31:8 are ignored. -/
theorem test_wrPsr : after (exec (.wrPsr 3 0x1FF) (at_ 3 rich))
    (fun t => t.chan 3 == { rich with psr := 0xFF }) = true := by
  decide +kernel
/-- T-R10: the last count goes away with `TRC` unmasked, the line rises. -/
theorem test_wrTcr_raises_line : after (exec (.wrTcr 0 0x10000) (at_ 0 (running 7)))
    (fun t => (t.chan 0).tcr == 0 && (t.chan 0).isr == 0b011 && (t.chan 0).line && (t.chan 0).pend) = true :=
    by decide +kernel
/-- T-R11: a queued count is loaded in the same step. -/
theorem test_wrTcr_reloads : after (exec (.wrTcr 0 0) (at_ 0 { idle with mar := 0x20000600, tcr := 5, marr := 0x20000700, tcrr := 3 }))
    (fun t => (t.chan 0).mar == 0x20000700 && (t.chan 0).tcr == 3 && (t.chan 0).tcrr == 0 &&
    (t.chan 0).isr == 0b001) = true := by
  decide +kernel
/-- T-R6, first write. -/
theorem test_wrMarr : after (exec (.wrMarr 0 0x20000700) (at_ 0 (running 2)))
    (fun t => t.chan 0 == { running 2 with marr := 0x20000700 }) = true := by decide +kernel
/-- T-R7: bits 31:16 are dropped, an empty count is loaded at once. -/
theorem test_wrTcrr_loads : after (exec (.wrTcrr 0 0x12345) (at_ 0 { idle with marr := 0x20000100 }))
    (fun t => t.chan 0 == { idle with marr := 0x20000100, mar := 0x20000100, tcr := 9029 }) = true := by decide +kernel
/-- T-R6, second write: queued behind a live count. -/
theorem test_wrTcrr_queues : after (exec (.wrTcrr 0 3) (at_ 0 (running 2)))
    (fun t => t.chan 0 == { running 2 with tcrr := 3 } && (t.chan 0).isr == 0b000) = true := by decide +kernel
/-- T-R16: `ECLR` and `TEN` in one word. -/
theorem test_wrCr_eclr : after (exec (.wrCr 0 0x101) (at_ 0 { idle with terr := true }))
    (fun t => t.chan 0 == { idle with ten := true }) = true := by decide +kernel
/-- T-R14, T-R15. -/
theorem test_wrCr_tdis : after (exec (.wrCr 0 2) (at_ 0 (running 5)))
    (fun t => t.chan 0 == { running 5 with ten := false }) = true ∧
    refusal (exec (.wrCr 0 3) (at_ 0 idle)) = some .contradictoryCr := by decide +kernel
/-- T-R19: bit 4 is reserved and ignored. -/
theorem test_wrMr : after (exec (.wrMr 0 0x12) (at_ 0 idle))
    (fun t => t.chan 0 == { idle with mr := 2 }) = true := by decide +kernel
/-- T-R18. -/
theorem test_wrMr_refused : refusal (exec (.wrMr 0 4) (at_ 0 idle)) = some .reservedMode ∧
    refusal (exec (.wrMr 0 8) base) = some .reservedMode ∧ refusal (exec (.wrMr 0 3) base)
    = some .reservedMode := by decide +kernel
/-- T-R25. -/
theorem test_wrSr : after (exec (.wrSr 3 0) (at_ 3 rich)) (fun t => t.chan 3 == rich) = true := by decide +kernel
theorem test_wrImr : after (exec (.wrImr 3 7) (at_ 3 rich)) (fun t => t.chan 3 == rich) = true := by decide +kernel
theorem test_wrIsr : after (exec (.wrIsr 3 0) (at_ 3 rich)) (fun t => t.chan 3 == rich) = true := by decide +kernel
/-- T-R20: unmasking an asserted source raises the line. -/
theorem test_wrIer_raises : after (exec (.wrIer 0 2) (at_ 0 idle))
    (fun t => t.chan 0 == { idle with imr := 0b010, pend := true }) = true := by
  decide +kernel
/-- T-R23. -/
theorem test_wrIer_all : after (exec (.wrIer 0 5) (at_ 0 (running 5)))
    (fun t => (t.chan 0).imr == 0b111) = true := by decide +kernel
/-- T-R21: `pend` stays. -/
theorem test_wrIdr : after (exec (.wrIdr 0 2) (at_ 0 { idle with imr := 0b010, pend := true }))
    (fun t => t.chan 0 == { idle with pend := true }) = true := by decide +kernel
/-- T-R24: bits 31:3 are ignored. -/
theorem test_wrIdr_reserved : after (exec (.wrIdr 0 0xFFFFFFF8) (at_ 0 { running 5 with imr := 0b111 }))
    (fun t => (t.chan 0).imr == 0b111) = true := by decide +kernel

/-! ### Lifecycle operations (41_lifecycle.md) -/

/-- T-L1. -/
theorem test_new : after (exec (.new 3) base) (fun t => t.respLog == [⟨.new 3, ⟨.ok, false, 0x400A20C0, 0⟩⟩]) = true ∧
    after (exec (.new 15) base) (fun t => t.respLog == [⟨.new 15, ⟨.ok, false, 0x400A23C0, 0⟩⟩]) = true :=
    by decide +kernel
/-- T-L5, T-L6. -/
theorem test_init : after (exec (.init 1 0xCAFE0001 .half) base)
    (fun t => t.chan 1 == { quiet with cb := some 0xCAFE0001, width := some .half } && t.busLog == []) = true ∧
    after (exec (.init 1 2 .word) (base.setChan 1 idle))
    (fun t => t.chan 1 == { idle with cb := some 2, width := some .word }) = true := by
  decide +kernel
/-- S-S2, first call. -/
theorem test_enable : after (exec (.enable 3) base) (fun t => t.numEnabled == 1 && t.clkOk && (t.chan 3).en &&
    (t.chan 3).fsm == .idle &&
    t.clkLog == [⟨true, .d0⟩, ⟨true, .d1⟩] && t.busLog == [.wr 3 .idr 7]) = true := by decide +kernel
/-- S-S2, second call. -/
theorem test_enable_again : after (exec (.enable 3) (at_ 3 idle)) (fun t => t.numEnabled == 1 && t.chan 3 == idle &&
    t.clkLog == [⟨true, .d0⟩, ⟨true, .d1⟩] && t.busLog == []) = true := by decide +kernel
/-- T-L4. -/
theorem test_disable : after (exec (.disable 0) (at_ 0 (running 5))) (fun t => t.numEnabled == 0 && !t.clk0 && !t.clk1 &&
    t.clkLog == [⟨false, .d0⟩, ⟨false, .d1⟩] && t.busLog == [.wr 0 .cr 2] &&
    t.chan 0 == { running 5 with ten := false, en := false, fsm := .disabled }) = true := by decide +kernel
/-- T-L8. -/
theorem test_disable_underflow : after (exec (.disable 5) { at_ 5 idle with numEnabled := 0 })
    (fun t => t.chan 5 == idle && t.numEnabled == 0 && t.clkLog == [] && t.busLog == [] &&
      t.respLog == [⟨.disable 5, ⟨.counterUnderflow, false, 0, 0⟩⟩]) = true := by decide +kernel
/-- S-S2, T-L3. -/
theorem test_isen : after (exec (.isen 3) (at_ 3 idle)) (fun t => t.respLog == [⟨.isen 3, ⟨.ok, false, 1, 0⟩⟩]) = true ∧
    after (exec (.isen 3) base) (fun t => t.respLog == [⟨.isen 3, ⟨.ok, false, 0, 0⟩⟩]) = true := by decide +kernel

/-! ### Transfer operations (42_transfer.md) -/

/-- T-X1, T-X3 to T-X5, T-X8 to T-X11. -/
theorem test_clamp : programmedCount .word 40 100 = 10 ∧ programmedCount .word 43 100 = 10 ∧
    programmedCount .half 7 2 = 2 ∧
    programmedCount .word 3 5 = 0 ∧ programmedCount .byte 65535 70000 = 0xFFFF ∧ programmedCount .byte 65536 65536 = 0 ∧
    programmedCount .byte 100000 70000 = 0x1170 ∧ programmedCount .word 4294967295 4294967295 = 0xFFFF :=
    by decide +kernel
/-- S-S4. -/
theorem test_prepare : after (exec (.prepare 0 22 ⟨0x20000100, 64⟩ 64) (at_ 0 idle))
    (fun t => t.chan 0 == { running 64 with ten := false, fsm := .configured } &&
      t.busLog == [.wr 0 .mr 0, .wr 0 .psr 0x16, .wr 0 .marr 0x20000100, .wr 0 .tcrr 0x40, .wr 0 .ier 2]) = true := by decide +kernel
/-- T-O6, T-O7. -/
theorem test_prepare_faults : after (exec (.prepare 0 18 ⟨0x20000500, 4⟩ 4) (at_ 0 (running 5)))
    (fun t => t.chan 0 == running 5 &&
    t.respLog == [⟨.prepare 0 18 ⟨0x20000500, 4⟩ 4, ⟨.slotOccupied, false, 0, 0⟩⟩]) = true ∧
    after (exec (.prepare 0 18 ⟨0x20000500, 4⟩ 4) (at_ 0 { running 5 with width := none }))
    (fun t => t.respLog == [⟨.prepare 0 18 ⟨0x20000500, 4⟩ 4, ⟨.notInitialized, false, 0, 0⟩⟩]) = true :=
    by decide +kernel
/-- T-O1, T-O2. -/
theorem test_start : after (exec (.start 0) (at_ 0 { running 64 with ten := false, fsm := .configured }))
    (fun t => t.chan 0 == running 64) = true ∧
    after (exec (.start 0) (at_ 0 idle)) (fun t => t.chan 0 == { idle with ten := true }) = true := by decide +kernel
/-- S-S4 and T-O1 together. -/
theorem test_xfer : after (exec (.xfer 0 22 ⟨0x20000100, 64⟩ 64) (at_ 0 idle))
    (fun t => t.chan 0 == running 64) = true := by decide +kernel
/-- T-O8: no `start` half after a fault. -/
theorem test_xfer_fault : after (exec (.xfer 2 21 ⟨0x20000400, 16⟩ 16) (at_ 2 { idle with width := none }))
    (fun t => t.busLog == [] &&
    t.respLog == [⟨.xfer 2 21 ⟨0x20000400, 16⟩ 16, ⟨.notInitialized, false, 0, 0⟩⟩]) = true := by decide +kernel
/-- T-O3, T-O4. -/
theorem test_count : after (exec (.count 3) (at_ 3 (running 7)))
    (fun t => t.respLog == [⟨.count 3, ⟨.ok, false, 7, 0⟩⟩]) = true ∧
    after (exec (.count 3) (at_ 3 idle)) (fun t => t.respLog == [⟨.count 3, ⟨.ok, false, 0, 0⟩⟩]) = true :=
    by decide +kernel
/-- S-P5: `MAR`, `PSR` and the programmed mode keep their values. -/
theorem test_abort : after (exec (.abort 0) (at_ 0 { running 64 with ten := false, fsm := .configured })) (fun t =>
    t.chan 0 == { idle with mar := 0x20000100, marr := 0x20000100, psr := 22 } &&
    t.respLog == [⟨.abort 0, ⟨.ok, true, 0x20000100, 64⟩⟩]) = true := by decide +kernel
/-- S-S5. -/
theorem test_abort_empty : after (exec (.abort 0) (at_ 0 idle)) (fun t => t.chan 0 == idle &&
    t.respLog == [⟨.abort 0, ⟨.ok, false, 0, 0⟩⟩] && t.busLog == [.wr 0 .idr 7, .wr 0 .tcr 0]) = true := by decide +kernel

/-! ### The handler, dispatch and return (44_interrupt_completion.md) -/

/-- T-I1, the handler. -/
theorem test_irq : after (exec (.irq 0) (at_ 0 (running 0)))
    (fun t => t.chan 0 == { running 0 with imr := 0, fsm := .idle } &&
    t.cbLog == [⟨1, 22⟩] && t.busLog == [.wr 0 .idr 7, .rd 0 .psr 0x16]) = true := by decide +kernel
/-- T-I8. -/
theorem test_irq_bad_code : after (exec (.irq 0) (at_ 0 { idle with psr := 0xEE })) (fun t => t.cbLog == [] &&
    (t.chan 0).fsm == .idle &&
    t.respLog == [⟨.irq 0, ⟨.badPeripheralCode, false, 0, 0⟩⟩]) = true := by decide +kernel
/-- T-I1, the dispatch. -/
theorem test_dispatch : after (step (feed [.dispatch 0] (at_ 0 { running 0 with pend := true })))
    (fun t => t.active == some 0 && !(t.chan 0).pend && t.ctxI == .running ⟨.irq 0, 0, {}⟩ none) = true :=
    by decide +kernel

/-! ### The data mover (43_data_mover.md) -/

/-- T-M1. -/
def wordRx : Channel := { idle with psr := 0, mr := 2, mar := 0x20000200, tcr := 10, ten := true, imr := 0b010 }
theorem test_mover_rx : after (step (feed [.mover 3 true 0x11223344] (at_ 3 wordRx))) (fun t =>
    t.mem == [(0x20000200, 0x44), (0x20000201, 0x33), (0x20000202, 0x22), (0x20000203, 0x11)] &&
    t.chan 3 == { wordRx with mar := 0x20000204, tcr := 9 } && t.perLog == [.pop 0 4 0x11223344]) = true :=
    by decide +kernel
/-- T-M3. -/
theorem test_mover_tx : after (step (feed [.mover 0 true 0] ({ at_ 0 { running 2 with mr := 1, mar := 0x20000300 } with
    mem := [(0x20000300, 0x34), (0x20000301, 0x12)] }))) (fun t => t.perLog == [.push 22 2 0x1234] &&
    (t.chan 0).mar == 0x20000302) = true := by decide +kernel
/-- T-M4: the last element. -/
theorem test_mover_last : after (step (feed [.mover 0 true 0] (at_ 0 (running 1)))) (fun t =>
    t.chan 0 == { running 0 with mar := 0x20000101, pend := true } && (t.chan 0).isr == 0b011 &&
    (t.chan 0).line) = true := by
  decide +kernel
/-- T-M6: the reload in the same step. -/
theorem test_mover_reload : after (step (feed [.mover 4 true 0x2222] (at_ 4 { wordRx with mr := 1, mar := 0x20000602, tcr := 1, marr := 0x20000700, tcrr := 3 })))
    (fun t => t.mem == [(0x20000602, 0x22), (0x20000603, 0x22)] && (t.chan 4).mar == 0x20000700 && (t.chan 4).tcr == 3 &&
      (t.chan 4).tcrr == 0 && (t.chan 4).isr == 0b001 && !(t.chan 4).pend) = true := by decide +kernel
/-- T-M7: a misaligned word. -/
theorem test_mover_misaligned : after (step (feed [.mover 3 true 0x11223344] (at_ 3 { wordRx with mar := 0x20000202 }))) (fun t =>
    t.chan 3 == { wordRx with mar := 0x20000202, terr := true } && t.mem == [] && t.perLog == [] &&
    t.memLog == [⟨3, .write, 0x20000202, 4, none⟩] && (t.chan 3).isr == 0b101) = true := by decide +kernel
/-- T-M9: the address wraps. -/
theorem test_mover_wraps : after (step (feed [.mover 0 true 0xAB] { at_ 0 { wordRx with mr := 0, mar := 0xFFFFFFFF, tcr := 2 } with
    params := { Config.suggested with regions := [⟨0, 2 ^ 32, true, true⟩] } }))
    (fun t => t.mem == [(0xFFFFFFFF, 0xAB)] && (t.chan 0).mar == 0 && (t.chan 0).tcr == 1) = true := by decide +kernel

/-! ### Witnesses: a concrete state that meets the hypotheses of each obligation, clause by clause -/

/-- The outcome is a next state. -/
def goesOn (o : Host.Outcome State Fault Refusal) : Bool := after o fun _ => true

/-- What `goesOn` says as the obligations write it. -/
theorem goesOn_iff (o : Host.Outcome State Fault Refusal) : goesOn o = true ↔ ∃ t, o = .next t := by
  cases o <;> simp [goesOn, after]

/-- The block with its clocks off. -/
def off (k : ClkOffAccess) : State := { base with params := { Config.suggested with clkOff := k } }

/-- The command `disable ch0`, written out. -/
def disable0 : Request := .cmd 0x03

theorem witness_DecodeOfEncodeIsIdentity : Config.suggested.wf = true ∧
    Instr.wellFormed Config.suggested (.wrMr 15 2) = true ∧
    Instr.wellFormed Config.suggested (.xfer 0 38 ⟨1, 2⟩ 3) = true := by
  decide +kernel
theorem witness_DecodedRequestsReencode : Config.suggested.wf = true ∧
    read (.cmd 0x00000064000000282000020000000037) = some (.xfer 3 0 ⟨0x20000200, 40⟩ 100) ∧
    read (.reg 0x1400A23C0 (some 7) 32) = some (.wrMar 15 7) := by decide +kernel
/-- One request for each clause of `ReservedEncodingsAreRefused`, at the ends of each range. -/
theorem witness_ReservedEncodingsAreRefused :
    11 ≤ ((0x0B : BitVec 128).extractLsb' 0 4).toNat ∧ 11 ≤ ((0x0F : BitVec 128).extractLsb' 0 4).toNat ∧
    ((0x30001 : BitVec 128).extractLsb' 0 4 = 1 ∧ (0x30001 : BitVec 128).extractLsb' 8 8 = 0 ∧
      (0x30001 : BitVec 128).extractLsb' 16 2 = 3 ∧ (0x30001 : BitVec 128).extractLsb' 18 14 = 0 ∧
      (0x30001 : BitVec 128).extractLsb' 64 64 = 0) ∧
    ((0x2707 : BitVec 128).extractLsb' 0 4 = 7 ∧ (0x2707 : BitVec 128).extractLsb' 16 16 = 0 ∧
      validPid Config.suggested ((0x2707 : BitVec 128).extractLsb' 8 8) = false) ∧
    (((0x4000A : BitVec 128).extractLsb' 0 4).toNat < 11 ∧ (0x4000A : BitVec 128).extractLsb' 18 14 ≠ 0) ∧
    (((0x100 : BitVec 128).extractLsb' 0 4).toNat < 11 ∧ (0x100 : BitVec 128).extractLsb' 0 4 ≠ 1 ∧
      (0x100 : BitVec 128).extractLsb' 0 4 ≠ 5 ∧ (0x100 : BitVec 128).extractLsb' 0 4 ≠ 7 ∧
      (0x100 : BitVec 128).extractLsb' 8 120 ≠ 0) ∧
    ((0x1 + 2 ^ 127 : BitVec 128).extractLsb' 0 4 = 1 ∧ (0x1 + 2 ^ 127 : BitVec 128).extractLsb' 64 64 ≠ 0) ∧
    ((0x101 : BitVec 128).extractLsb' 0 4 = 1 ∧ (0x101 : BitVec 128).extractLsb' 8 8 ≠ 0) ∧
    ((0x30005 : BitVec 128).extractLsb' 0 4 = 5 ∧ (0x30005 : BitVec 128).extractLsb' 16 2 ≠ 0) ∧ (8 : Nat) ≠ 32 ∧
    inRegSpace Config.suggested ((0x0400A2400 : BitVec 33).setWidth 32 : Word).toNat = false ∧
    inRegSpace Config.suggested ((0x0400A1FFF : BitVec 33).setWidth 32 : Word).toNat = false ∧
    (Config.suggested.wf = true ∧
    inRegSpace Config.suggested ((0x0400A2030 : BitVec 33).setWidth 32 : Word).toNat = true ∧
      0x30 ≤ (((0x0400A2030 : BitVec 33).setWidth 32 : Word).toNat - Config.suggested.dmaBase.toNat) % Config.suggested.stride) ∧
    (inRegSpace Config.suggested ((0x0400A23FF : BitVec 33).setWidth 32 : Word).toNat = true ∧
      ((0x0400A23FF : BitVec 33).setWidth 32 : Word).toNat % 4 ≠ 0) ∧
    ((0x103 : Word).getLsbD 0 = true ∧ (0x103 : Word).getLsbD 1 = true) ∧
    ((8 : Word).getLsbD 3 = true ∧ (4 : Word).getLsbD 2 = true ∧ (3 : Word).setWidth 2 = (3 : BitVec 2)) ∧
    (normalReady on = true ∧ rejected (decode on.params (.cmd 0x0B)) = some .reservedOpcode) := by decide +kernel
theorem witness_WellFormedInstructionsComplete : Instr.wellFormed on.params (.prepare 0 38 ⟨0, 0⟩ 0) = true ∧
    Instr.wellFormed on.params (.wrCr 0 3) = false ∧ Instr.wellFormed on.params (.wrMr 0 3) = false ∧
    Instr.wellFormed on.params (.prepare 0 39 ⟨0, 0⟩ 0) = false ∧
    Instr.wellFormed on.params (.xfer 0 13 ⟨0, 0⟩ 0) = false := by
  decide +kernel
theorem witness_RegisterReadsReturnTheirValues : (at_ 3 rich).clkOk = true := by decide +kernel
theorem witness_AddressAndSelectWrites : (at_ 3 rich).clkOk = true ∧ ((at_ 3 rich).chan 3).settled := by decide +kernel
/-- Both branches of the written channel: a count queued, none queued. -/
theorem witness_CounterWriteStopsOrReloads : (at_ 3 rich).clkOk = true ∧
    ((0x10000 : Word).setWidth 16 = (0 : BitVec 16) ∧ ((at_ 3 rich).chan 3).tcrr ≠ 0) ∧
    ¬((0x10000 : Word).setWidth 16 = (0 : BitVec 16) ∧ ((at_ 3 idle).chan 3).tcrr ≠ 0) := by decide +kernel
theorem witness_ReloadWriteLoadsOrQueues : on.clkOk = true ∧
    (((at_ 3 idle).chan 3).tcr = 0 ∧ (1 : Word).setWidth 16 ≠ (0 : BitVec 16)) ∧
    ¬(((at_ 3 idle).chan 3).tcr = 0 ∧ (0x10000 : Word).setWidth 16 ≠ (0 : BitVec 16)) := by decide +kernel
theorem witness_ControlWriteCommands : ((3 : Word).getLsbD 0 = true ∧ (3 : Word).getLsbD 1 = true) ∧
    ¬((0x101 : Word).getLsbD 0 = true ∧ (0x101 : Word).getLsbD 1 = true) ∧ on.clkOk = true ∧ (on.chan 15).settled := by
  decide +kernel
theorem witness_ModeWriteSelectsSize : (8 : Word).getLsbD 3 = true ∧ (4 : Word).getLsbD 2 = true ∧
    (3 : Word).setWidth 2 = (3 : BitVec 2) ∧ ((0x12 : Word).getLsbD 3 = false ∧ (0x12 : Word).getLsbD 2 = false ∧
      (0x12 : Word).setWidth 2 ≠ (3 : BitVec 2)) ∧ on.clkOk = true ∧ (on.chan 0).settled := by decide +kernel
theorem witness_InterruptEnableUnmasks : (at_ 0 idle).clkOk = true ∧ ((at_ 0 idle).chan 0).settled := by decide +kernel
theorem witness_InterruptDisableMasks : (at_ 0 (running 0)).clkOk = true ∧
    ((at_ 0 (running 0)).chan 0).settled := by decide +kernel
/-- Each value of `CLKOFF_ACCESS`, a write that spells an instruction, and both runs going on. -/
theorem witness_UnclockedAccessFollowsParameter : (off .lands).clkOk = false ∧ (off .dropped).clkOk = false ∧
    (off .draw).clkOk = false ∧ (off .lands).params.clkOff = .lands ∧ (off .dropped).params.clkOff = .dropped ∧
    (off .draw).params.clkOff = .draw ∧ (∃ i, writeInstr .tcr 0 5 = .ok i) ∧
    goesOn (exec (.wrTcr 0 5) (off .draw)) = true ∧ goesOn (exec (.wrTcr 0 5) (off .draw).clocked) = true :=
  ⟨by decide +kernel, by decide +kernel, by decide +kernel, rfl, rfl, rfl, ⟨_, rfl⟩, by decide +kernel, by decide +kernel⟩
theorem witness_RegisterAccessKeepsEngineState : isRegisterAccess (.wrCr 3 2) = true ∧
    ∃ t, exec (.wrCr 3 2) (at_ 3 rich) = .next t := ⟨rfl, (goesOn_iff _).1 (by decide +kernel)⟩
theorem witness_PureQueriesAnswer : ((at_ 3 idle).chan 3).en = true ∧ ((at_ 3 idle).chan 4).en = false :=
    by decide +kernel
theorem witness_EnableCountsOnce : (base.chan 3).settled ∧ (base.chan 3).en = false ∧ ((at_ 3 idle).chan 3).settled ∧
    ((at_ 3 idle).chan 3).en = true := by decide +kernel
/-- A disabled channel; the last but one channel; the last channel; a clock off with two counted; the opaque landing aside. -/
theorem witness_DisableCountsDown : ((base.chan 0).settled ∧ (base.chan 0).en = false) ∧
    ((at_ 0 (running 5)).chan 0).settled ∧ ((at_ 0 (running 5)).chan 0).en = true ∧
    (({ at_ 0 (running 5) with numEnabled := 2 } : State).numEnabled ≠ 0 ∧
      ({ at_ 0 (running 5) with numEnabled := 2 } : State).numEnabled ≠ 1 ∧
      ({ at_ 0 (running 5) with numEnabled := 2 } : State).clkOk = true) ∧
    (at_ 0 (running 5)).numEnabled = 1 ∧ ({ at_ 0 (running 5) with numEnabled := 0 } : State).numEnabled = 0 ∧
    ({ at_ 0 (running 5) with numEnabled := 2, clk1 := false } : State).clkOk = false := by
  decide +kernel
/-- A `prepare` in progress, about to make its first micro-step and about to be interrupted. -/
def preparing (idx : Nat) : State := { at_ 0 { idle with imr := 0b010, pend := true } with
  ctxN := .running ⟨.prepare 0 22 ⟨0x20000100, 64⟩ 64, idx, {}⟩ none }
/-- `disable` run whole; a micro-step of a `prepare` in progress; an `abort` issued by a receiver; `enable` accepted is shut
out. -/
theorem witness_StepKeepsCounterInvariant : ((feed [.command disable0] (at_ 0 idle)).counterInv ∧
    (feed [.command disable0] (at_ 0 idle)).noCountInProgress = true ∧
    Input.opensCount on.params (.command disable0) = false ∧
    ∃ t, step (feed [.command disable0] (at_ 0 idle)) = .next t) ∧
    ((feed [.normal] (preparing 0)).counterInv ∧ (feed [.normal] (preparing 0)).noCountInProgress = true ∧
    Input.opensCount on.params .normal = false ∧ ∃ t, step (feed [.normal] (preparing 0)) = .next t) ∧
    Input.opensCount on.params (.react (.cmd 0x09)) = false ∧ Input.opensCount on.params (.accept (.cmd 0x02)) = true :=
  ⟨⟨by decide +kernel, by decide +kernel, rfl, (goesOn_iff _).1 (by decide +kernel)⟩,
    ⟨by decide +kernel, by decide +kernel, rfl, (goesOn_iff _).1 (by decide +kernel)⟩, rfl, rfl⟩
theorem witness_ProgrammedCountStaysInBuffer : min (65535 : Word).toNat ((65536 : Word).toNat / widthBytes .byte) ≤ 65535 ∧
    ¬min (65536 : Word).toNat ((65536 : Word).toNat / widthBytes .byte) ≤ 65535 := by decide +kernel
theorem witness_GuardedOperationsFault : validPid on.params 22 = true ∧
    ((at_ 2 { running 5 with width := none }).chan 2).width = none ∧
    (((at_ 2 (running 5)).chan 2).width ≠ none ∧ ((at_ 2 (running 5)).chan 2).slot ≠ none) ∧
    (((at_ 2 idle).chan 2).en = true ∧ ({ at_ 2 idle with numEnabled := 0 } : State).numEnabled = 0) := by decide +kernel
/-- A count that is stored whole and one that is cut to 0. -/
theorem witness_PrepareProgramsTheChannel : (at_ 0 idle).clkOk = true ∧ validPid (at_ 0 idle).params 22 = true ∧
    ((at_ 0 idle).chan 0).width = some .byte ∧ ((at_ 0 idle).chan 0).slot = none ∧ ((at_ 0 idle).chan 0).tcr = 0 ∧
    ((at_ 0 idle).chan 0).tcrr = 0 ∧ ((at_ 0 idle).chan 0).imr = 0 ∧
    (64 : BitVec 16) = BitVec.ofNat 16 (min (64 : Word).toNat ((64 : Word).toNat / widthBytes .byte)) ∧
    (0 : BitVec 16) = BitVec.ofNat 16 (min (65536 : Word).toNat ((65536 : Word).toNat / widthBytes .byte)) :=
    by decide +kernel
theorem witness_TransferProgramsAndStarts : (at_ 0 { idle with width := some .word }).clkOk = true ∧
    validPid (at_ 0 idle).params 0 = true ∧ ((at_ 0 { idle with width := some .word }).chan 0).width = some .word ∧
    ((at_ 0 idle).chan 0).slot = none ∧ ((at_ 0 idle).chan 0).tcr = 0 ∧ ((at_ 0 idle).chan 0).tcrr = 0 ∧
    ((at_ 0 idle).chan 0).imr = 0 ∧
    (10 : BitVec 16) = BitVec.ofNat 16 (min (100 : Word).toNat ((40 : Word).toNat / widthBytes .word)) :=
    by decide +kernel
theorem witness_StaleCountDefeatsPrepareAndAbort : (at_ 0 { running 5 with slot := none }).clkOk = true ∧
    validPid on.params 22 = true ∧ ((at_ 0 { running 5 with slot := none }).chan 0).width = some .byte ∧
    ((at_ 0 { running 5 with slot := none }).chan 0).slot = none ∧
    ((at_ 0 { running 5 with slot := none }).chan 0).tcr ≠ 0 ∧
    BitVec.ofNat 16 (min (4 : Word).toNat ((4 : Word).toNat / widthBytes .byte)) ≠ 0 := by decide +kernel
theorem witness_StartEnablesTransfer : (at_ 0 { running 5 with fsm := .configured, ten := false }).clkOk = true ∧
    ((at_ 0 { running 5 with fsm := .configured, ten := false }).chan 0).settled := by decide +kernel
theorem witness_TransferIsPrepareThenStart : validPid (at_ 0 idle).params 22 = true := by decide +kernel
theorem witness_CountAnswersRemaining : (at_ 3 (running 7)).clkOk = true := by decide +kernel
theorem witness_AbortReleasesTheBuffer : (at_ 0 (running 7)).clkOk = true ∧
    ((at_ 0 (running 7)).chan 0).settled := by decide +kernel
theorem witness_EngineEffectsNeedNoClock : validPid (off .draw).params 38 = true ∧
    (((off .draw).setChan 0 idle).chan 0).width ≠ none ∧ (((off .draw).setChan 0 idle).chan 0).slot = none ∧
    ((off .draw).setChan 0 idle).clkOk = false := by decide +kernel
theorem witness_HandlerMasksThenReports : (at_ 0 (running 0)).clkOk = true ∧ ((at_ 0 (running 0)).chan 0).settled ∧
    (validPid on.params ((at_ 0 (running 0)).chan 0).psr = true ∧ ((at_ 0 (running 0)).chan 0).cb = some 1) ∧
    ((at_ 0 { running 0 with cb := none }).chan 0).cb = none ∧ validPid on.params (quiet.psr) = false ∧
    validPid on.params 13 = false := by decide +kernel
theorem witness_DispatchStartsTheHandler : (at_ 0 { running 0 with pend := true }).active = none ∧
    ((at_ 0 { running 0 with pend := true }).chan 0).pend = true ∧
    ({ at_ 0 { running 0 with pend := true } with active := some 3 } : State).active ≠ none ∧
    ((at_ 0 idle).chan 0).pend = false := by
  decide +kernel

/-- Channel 0's handler has made its last micro-step. -/
def returning : State := feed [.interrupt] { at_ 0 idle with active := some 0, ctxI := .returning }
theorem witness_ReturnFromHandler : returning.inputs = [.interrupt] ∧ returning.active = some 0 ∧
    returning.ctxI = .returning :=
  ⟨rfl, rfl, rfl⟩
theorem witness_HandlersDoNotNest : returning.active = some 0 ∧ returning.inputs.head? ≠ some .reset ∧
    ∃ t, step returning = .next t := ⟨rfl, by decide +kernel, _, rfl⟩
theorem witness_DispatchedHandlerRunsToItsReturn : (at_ 0 { running 0 with pend := true }).active = none ∧
    ((at_ 0 { running 0 with pend := true }).chan 0).pend = true ∧ (at_ 0 { running 0 with pend := true }).clkOk = true ∧
    ((at_ 0 { running 0 with pend := true }).chan 0).settled ∧
    validPid on.params ((at_ 0 { running 0 with pend := true }).chan 0).psr = true ∧
    ((at_ 0 { running 0 with pend := true }).chan 0).cb = some 1 := by decide +kernel
/-- A line that rises; a latch that stays; a latch that a dispatch clears. -/
theorem witness_PendingFollowsRisingEdges :
    (((at_ 0 (running 1)).chan 0).line = false ∧ ((at_ 0 (running 1)).chan 0).pend = false ∧
      after (step (feed [.mover 0 true 0] (at_ 0 (running 1)))) (fun t => (t.chan 0).line && (t.chan 0).pend) = true) ∧
    (((at_ 0 { idle with pend := true }).chan 0).pend = true ∧
      after (step (feed [.normal] (at_ 0 { idle with pend := true }))) (fun t => (t.chan 0).pend) = true ∧
      after (step (feed [.dispatch 0] (at_ 0 { idle with pend := true }))) (fun t => !(t.chan 0).pend) = true) ∧
    Input.isMicroStep (.mover 0 true 0) = true ∧ Input.isMicroStep .normal = true ∧
    Input.isMicroStep (.dispatch 0) = true := by
  decide +kernel

/-- Channel 0's handler after `transfer_done`, before its last micro-step. -/
def reporting : State := { at_ 0 idle with active := some 0, ctxI := .running ⟨.irq 0, 5, { emitted := true }⟩ none }
theorem witness_ReactionEntersInterruptContext : reporting.active = some 0 ∧
    reporting.ctxI = .running ⟨.irq 0, 5, { emitted := true }⟩ none ∧
    decode reporting.params (.cmd 0x09) = .ok (.abort 0) ∧
    decode reporting.params (.cmd 0x08) = .ok (.irq 0) := ⟨rfl, rfl, rfl, rfl⟩

/-- What the mover's statements ask of channel 3 of `at_ 3 wordRx`, at a move that leaves nothing. -/
theorem witness_ReceiveMovesOneElement : (at_ 3 wordRx).mem.wf = true ∧ (at_ 3 wordRx).clkOk = true ∧
    ((at_ 3 wordRx).chan 3).ten = true ∧ ((at_ 3 wordRx).chan 3).tcr ≠ 0 ∧ ((at_ 3 wordRx).chan 3).terr = false ∧
    modeWidth ((at_ 3 wordRx).chan 3).mr = some .word ∧
    (periphOf on.params ((at_ 3 wordRx).chan 3).psr).map Periph.dir = some .rx ∧
    admits on.params .write ((at_ 3 wordRx).chan 3).mar (widthBytes .word) = true ∧
    ((at_ 3 { wordRx with tcr := 1 }).chan 3).tcr = 1 := by
  decide +kernel
theorem witness_TransmitMovesOneElement : (at_ 0 (running 2)).clkOk = true ∧ ((at_ 0 (running 2)).chan 0).ten = true ∧
    ((at_ 0 (running 2)).chan 0).tcr ≠ 0 ∧ ((at_ 0 (running 2)).chan 0).terr = false ∧
    modeWidth ((at_ 0 (running 2)).chan 0).mr = some .byte ∧
    (periphOf on.params ((at_ 0 (running 2)).chan 0).psr).map Periph.dir = some .tx ∧
    admits on.params .read ((at_ 0 (running 2)).chan 0).mar (widthBytes .byte) = true := by decide +kernel
/-- T-M7's start: the word at 0x20000202 is refused. -/
theorem witness_RefusedAccessLatchesError : (at_ 3 { wordRx with mar := 0x20000202 }).clkOk = true ∧
    ((at_ 3 { wordRx with mar := 0x20000202 }).chan 3).ten = true ∧
    ((at_ 3 { wordRx with mar := 0x20000202 }).chan 3).tcr ≠ 0 ∧
    ((at_ 3 { wordRx with mar := 0x20000202 }).chan 3).terr = false ∧ modeWidth wordRx.mr = some .word ∧
    (periphOf on.params wordRx.psr).map Periph.dir = some .rx ∧
    admits on.params .write 0x20000202 (widthBytes .word) = false := by
  decide +kernel
/-- A misaligned word; the last byte before and the first after the register space; the first byte after allocated memory; the
last word of allocated memory, which is admitted. -/
theorem witness_MemoryPortRefuses : (0x20000202 : Word).toNat % widthBytes .word ≠ 0 ∧
    inRegSpace on.params ((0x400A2000 : Word).toNat + 0) = true ∧
    inRegSpace on.params ((0x400A23FE : Word).toNat + 1) = true ∧
    (∀ g ∈ on.params.regions, (0x20010000 : Word).toNat + 0 < g.base ∨ g.base + g.size ≤ (0x20010000 : Word).toNat + 0 ∨
      Access.write = .read ∧ g.read = false ∨ Access.write = .write ∧ g.write = false) ∧
    (∃ g ∈ on.params.regions, (0x2000FFFC : Word).toNat % widthBytes .word = 0 ∧
      (∀ i, i < widthBytes .word → inRegSpace on.params ((0x2000FFFC : Word).toNat + i) = false) ∧
      g.base ≤ (0x2000FFFC : Word).toNat ∧ (0x2000FFFC : Word).toNat + widthBytes .word = g.base + g.size ∧
      g.read = true ∧ g.write = true) ∧
    admits on.params .write 0x2000FFFC (widthBytes .word) = true := by decide +kernel
/-- T-M10: each way to fail. -/
theorem witness_DisabledMoverDoesNothing : base.clkOk = false ∧ ((at_ 0 idle).chan 0).ten = false ∧
    ((at_ 0 idle).chan 0).tcr = 0 ∧
    ((at_ 3 rich).chan 3).terr = true ∧ validPid on.params 13 = false := by decide +kernel
theorem witness_LastElementCompletes : (at_ 0 (running 1)).clkOk = true ∧ ((at_ 0 (running 1)).chan 0).ten = true ∧
    ((at_ 0 (running 1)).chan 0).tcr = 1 ∧ ((at_ 0 (running 1)).chan 0).tcrr = 0 ∧
    ((at_ 0 (running 1)).chan 0).terr = false ∧
    modeWidth ((at_ 0 (running 1)).chan 0).mr = some .byte ∧
    (periphOf on.params ((at_ 0 (running 1)).chan 0).psr).map Periph.dir = some .tx ∧
    admits on.params .read ((at_ 0 (running 1)).chan 0).mar (widthBytes .byte) = true ∧
    ((at_ 0 (running 1)).chan 0).maskLegal := by
  decide +kernel
theorem witness_MoverTouchesOnlyItsElement : (feed [.mover 3 true 5] (at_ 3 wordRx)).mem.wf = true ∧
    ∃ t, step (feed [.mover 3 true 5] (at_ 3 wordRx)) = .next t := ⟨rfl, _, rfl⟩
/-- Two elements at the top of the address space: the last address is 2^32 - 1. -/
theorem witness_ReceiveTransferFillsTheBuffer :
    let s : State := feed ([1, 2].map fun v => .mover 0 true v) { at_ 0 { wordRx with tcr := 2, mar := 0xFFFFFFF8 } with
      params := { Config.suggested with regions := [⟨0, 2 ^ 32, true, true⟩] } }
    s.mem.wf = true ∧ s.clkOk = true ∧ (s.chan 0).ten = true ∧ (s.chan 0).terr = false ∧
    (s.chan 0).tcr.toNat = [1, 2].length ∧
    (s.chan 0).tcrr = 0 ∧ modeWidth (s.chan 0).mr = some .word ∧
    (periphOf s.params (s.chan 0).psr).map Periph.dir = some .rx ∧
    (s.chan 0).mar.toNat + 2 * widthBytes .word ≤ 2 ^ 32 ∧
    ∀ k, k < 2 → admits s.params .write ((s.chan 0).mar + BitVec.ofNat 32 (k * widthBytes .word)) (widthBytes .word) = true := by
  decide +kernel
theorem witness_TransmitTransferPushesTheBuffer :
    let s : State := feed ([0, 0].map fun v => .mover 0 true v) (at_ 0 (running 2))
    s.clkOk = true ∧ (s.chan 0).ten = true ∧ (s.chan 0).terr = false ∧ (s.chan 0).tcr.toNat = [0, 0].length ∧
    (s.chan 0).tcrr = 0 ∧ modeWidth (s.chan 0).mr = some .byte ∧
    (periphOf s.params (s.chan 0).psr).map Periph.dir = some .tx ∧
    (s.chan 0).mar.toNat + 2 * widthBytes .byte ≤ 2 ^ 32 ∧
    ∀ k, k < 2 → admits s.params .read ((s.chan 0).mar + BitVec.ofNat 32 (k * widthBytes .byte)) (widthBytes .byte) = true := by
  decide +kernel
theorem witness_StepRunsDecodedInstruction : (feed [.command disable0] on).active = none ∧
    (feed [.command disable0] on).ctxN = .idle ∧
    decode on.params disable0 = .ok (.disable 0) := ⟨rfl, rfl, rfl⟩
theorem witness_MicroStepsComposeToMeaning :
    (feed (.accept disable0 :: List.replicate (program (.disable 0)).length .normal) on).active = none ∧
    (feed (.accept disable0 :: List.replicate (program (.disable 0)).length .normal) on).ctxN = .idle ∧
    decode on.params disable0 = .ok (.disable 0) ∧ (program (.disable 0)).length = 6 := ⟨rfl, rfl, rfl, rfl⟩
theorem witness_StepKeepsInvariant : (feed [.mover 0 true 0] (at_ 0 (running 1))).inv ∧
    ∃ t, step (feed [.mover 0 true 0] (at_ 0 (running 1))) = .next t := ⟨by decide +kernel, _, rfl⟩
theorem witness_ResetEventLeavesResetValues : (feed [.reset] (at_ 3 rich)).inputs = [.reset] := rfl
theorem witness_InstructionsActOnTheirChannel : ∃ t, exec (.abort 3) (at_ 3 rich) = .next t := ⟨_, rfl⟩
theorem witness_EngineOperationsKeepMaskLegal : isRegisterAccess (.prepare 0 22 ⟨0, 0⟩ 0) = false ∧
    (∀ c, ((at_ 0 idle).chan c).maskLegal) ∧
    ∃ t, exec (.prepare 0 22 ⟨0, 0⟩ 0) (at_ 0 idle) = .next t := ⟨rfl,
    by decide +kernel, (goesOn_iff _).1 (by decide +kernel)⟩
/-- Each kind of change happens. -/
theorem witness_OnlyTheirInstructionsChange :
    after (exec (.start 0) (at_ 0 idle)) (fun t => (t.chan 0).ten != ((at_ 0 idle).chan 0).ten) = true ∧
    after (exec (.abort 0) (at_ 0 (running 2))) (fun t => (t.chan 0).slot != ((at_ 0 (running 2)).chan 0).slot) = true ∧
    after (exec (.init 0 9 .byte) (at_ 0 idle)) (fun t => (t.chan 0).cb != ((at_ 0 idle).chan 0).cb) = true ∧
    after (exec (.disable 0) (at_ 0 idle)) (fun t => t.numEnabled != (at_ 0 idle).numEnabled) = true := by decide +kernel
/-- An `xfer` of channel 0 before the first micro-step of its `start` half. -/
def starting : Context := .running ⟨.xfer 0 22 ⟨0x20000100, 64⟩ 64, 7, {}⟩ none
/-- The first and the last byte of a slot, the bytes beside it. -/
theorem witness_HostAccessIsOrderedAndFlagged : (at_ 0 (running 2)).mem.wf = true ∧ (at_ 0 (running 2)).active = none ∧
    (at_ 0 (running 2)).ctxN = .idle ∧ (at_ 0 (running 2)).ctxI = .idle ∧ ((at_ 0 (running 2)).chan 0).slot = some ⟨0x20000100, 64⟩ ∧
    ((0x20000100 - 0x20000100 : Word).toNat < (64 : Word).toNat ∧
    (0x2000013F - 0x20000100 : Word).toNat < (64 : Word).toNat) ∧
    ((64 : Word).toNat ≤ (0x20000140 - 0x20000100 : Word).toNat ∧
    (64 : Word).toNat ≤ (0x200000FF - 0x20000100 : Word).toNat) ∧
    (∀ c : Chan, c ≠ 0 → ((at_ 0 (running 2)).chan c).slot = none) ∧
    inRegSpace on.params (0x20000140 : Word).toNat = false ∧
    (∃ g ∈ on.params.regions, g.base ≤ (0x20000140 : Word).toNat ∧ (0x20000140 : Word).toNat < g.base + g.size) ∧
    inRegSpace on.params (0x2000013F : Word).toNat = false ∧
    ∃ g ∈ on.params.regions, g.base ≤ (0x2000013F : Word).toNat ∧ (0x2000013F : Word).toNat < g.base + g.size :=
    by decide +kernel
/-- Before the guards with a width and without; before the slot is filled; at the first micro-step of the `start` half, the
slot filled and the slot emptied by a receiver. -/
theorem witness_OwnershipRunsFromPrepareToAbort :
    Buffer.holds ⟨0x20000100, 64⟩ 0x2000013F = true ∧ Buffer.holds ⟨0x20000100, 64⟩ 0x20000140 = false ∧
    (∀ d : Chan, d ≠ 0 → ((preparing 0).chan d).slot = none) ∧ (preparing 0).active = none ∧
    (preparing 0).ctxI = .idle ∧ (preparing 0).ctxN = .running ⟨.prepare 0 22 ⟨0x20000100, 64⟩ 64, 0, {}⟩ none ∧
    ((preparing 0).chan 0).slot = none ∧ ((preparing 0).chan 0).width ≠ none ∧
    (((preparing 0).setChan 0 quiet).chan 0).slot = none ∧ (((preparing 0).setChan 0 quiet).chan 0).width = none ∧
    (preparing 1).ctxN = .running ⟨.prepare 0 22 ⟨0x20000100, 64⟩ 64, 1, {}⟩ none ∧
    (preparing 6).ctxN = .running ⟨.prepare 0 22 ⟨0x20000100, 64⟩ 64, 6, {}⟩ none ∧
    ({ at_ 0 (running 5) with ctxN := starting } : State).ctxN = starting ∧
    ((at_ 0 (running 5)).chan 0).slot = some ⟨0x20000100, 64⟩ ∧
    ({ at_ 0 idle with ctxN := starting } : State).ctxN = starting := by decide +kernel

/-- The host's accesses beside and inside a slot: both happen in the total order, the second is a race (R72, R276). -/
theorem test_host_access : after (step (feed [.hostWrite 0x20000140 7] (at_ 0 (running 2)))) (fun t =>
    t.mem == [(0x20000140, 7)] && t.hostLog == [⟨.write, 0x20000140, 7, false⟩]) = true ∧
    after (step (feed [.hostWrite 0x2000013F 7] (at_ 0 (running 2)))) (fun t =>
      t.mem == [(0x2000013F, 7)] && t.hostLog == [⟨.write, 0x2000013F, 7, true⟩]) = true := by decide +kernel
/-- A receiver's `abort` has emptied the slot while `xfer` stands at its `start` half: the buffer is the host's again (R72). -/
theorem test_host_write_after_abort :
    after (step (feed [.hostWrite 0x20000100 7] { at_ 0 idle with ctxN := starting, active := some 0, ctxI := reporting.ctxI }))
      (fun t => t.hostLog == [⟨.write, 0x20000100, 7, false⟩]) = true := by decide +kernel

end Sys2Proof.Tests
end

