-- ==== Sys2Proof/Proofs/MicroStepComposition.lean ====
section
/-! PROOF of `MicroStepsComposeToMeaning` (O52). Two ideas carry it. No micro-step reads or writes where the normal context
stands, whether a handler is active, or what inputs are to come, so `normal` after `normal` computes what `runMicros`
computes (`run_normals`). And every decoded instruction is one whose meaning is its program run whole (`wellFormed_of_decode`,
`exec_of_wellFormed`). -/

namespace Sys2Proof.Machine

/-! ### The position of the normal context -/

/-- The state with no handler active, the normal context at `x`, and the inputs `t` to come. -/
def State.awaiting (s : State) (x : Context) (t : List Input) : State := { s with active := none, ctxN := x, inputs := t }

section
variable (s : State) (x : Context) (t : List Input)

@[simp] theorem State.awaiting_params : (s.awaiting x t).params = s.params := rfl
@[simp] theorem State.awaiting_chan (c : Chan) : (s.awaiting x t).chan c = s.chan c := rfl
@[simp] theorem State.awaiting_numEnabled : (s.awaiting x t).numEnabled = s.numEnabled := rfl
@[simp] theorem State.awaiting_active : (s.awaiting x t).active = none := rfl
@[simp] theorem State.awaiting_ctxN : (s.awaiting x t).ctxN = x := rfl
@[simp] theorem State.awaiting_clkOk : (s.awaiting x t).clkOk = s.clkOk := rfl
@[simp] theorem State.awaiting_writeLands : (s.awaiting x t).writeLands = s.writeLands := rfl
@[simp] theorem State.awaiting_readWord (c : Chan) (r : Reg) : (s.awaiting x t).readWord c r = s.readWord c r := rfl
@[simp] theorem State.awaiting_readDraws (c : Chan) (r : Reg) : (s.awaiting x t).readDraws c r = s.readDraws c r := rfl
@[simp] theorem State.awaiting_logCb (e : CbEvent) : (s.awaiting x t).logCb e = (s.logCb e).awaiting x t := rfl
@[simp] theorem State.awaiting_logBus (e : BusEvent) : (s.awaiting x t).logBus e = (s.logBus e).awaiting x t := rfl
@[simp] theorem State.awaiting_nextDraw : (s.awaiting x t).nextDraw = s.nextDraw.awaiting x t := rfl

theorem State.awaiting_self {s : State} (h : s.active = none) : s.awaiting s.ctxN s.inputs = s := by
  rw [State.awaiting, ← h]

@[simp] theorem complete_awaiting (op : Instr) (r : Option Resp) :
    complete op r (s.awaiting x t) = (complete op r s).awaiting x t := by
  rw [complete_eq, complete_eq]; rfl

@[simp] theorem State.afterWriteDraw_awaiting : (s.awaiting x t).afterWriteDraw = s.afterWriteDraw.awaiting x t := by
  cases hclk : s.clkOk with
  | true => simp [State.afterWriteDraw, hclk]
  | false => cases hoff : s.params.clkOff <;> simp [State.afterWriteDraw, hclk, hoff]

@[simp] theorem regWrite_awaiting (c : Chan) (r : Reg) (v : Word) :
    regWrite c r v (s.awaiting x t) = (regWrite c r v s).awaiting x t := by
  simp only [regWrite, State.awaiting_writeLands, State.afterWriteDraw_awaiting, State.awaiting_chan]
  split <;> rfl

@[simp] theorem regRead_awaiting (c : Chan) (r : Reg) :
    regRead c r (s.awaiting x t) = ((regRead c r s).1, (regRead c r s).2.awaiting x t) := by
  by_cases h : s.readDraws c r <;> simp [regRead, h]

@[simp] theorem disableClock_awaiting (d : Domain) :
    disableClock d (s.awaiting x t) = (disableClock d s).awaiting x t := by
  cases d <;> rfl

@[simp] theorem fetchSub_awaiting :
    fetchSub (s.awaiting x t) = (fetchSub s).map (Prod.map id (·.awaiting x t)) := by
  unfold fetchSub
  rw [State.awaiting_numEnabled]
  split <;> rfl

end

/-! ### Micro-steps do not see the position -/

/-- With no handler active, the micro-step does the same wherever the normal context stands and whatever inputs are to come,
and leaves these three as they are. -/
def IgnoresPosition (m : Micro) : Prop :=
  ∀ l s x t, m l (s.awaiting x t) = ((m l s).1.awaiting x t, (m l s).2)

theorem ignoresPosition_act {f : State → State} (h : ∀ s x t, f (s.awaiting x t) = (f s).awaiting x t) :
    IgnoresPosition (act f) := fun _ s x t => congrArg (·, _) (h s x t)

theorem ignoresPosition_act_regWrite (c : Chan) (r : Reg) (v : Word) : IgnoresPosition (act (regWrite c r v)) :=
  ignoresPosition_act fun s x t => regWrite_awaiting s x t c r v

theorem ignoresPosition_readMicro (c : Chan) (r : Reg) : IgnoresPosition (readMicro c r) := by
  intro l s x t; simp [readMicro]

theorem ignoresPosition_writeMicro (c : Chan) (r : Reg) (v : Word) : IgnoresPosition (writeMicro c r v) := by
  intro l s x t; simp [writeMicro]

theorem ignoresPosition_decrement : IgnoresPosition decrement := by
  intro l s x t
  cases h : fetchSub s <;> simp [decrement, h]

theorem ignoresPosition_lastClockOff (d : Domain) : IgnoresPosition (lastClockOff d) := by
  intro l s x t
  simp only [lastClockOff, disableClock_awaiting]
  split <;> rfl

theorem ignoresPosition_prepareGuard (c : Chan) (b : Buffer) (r : Word) : IgnoresPosition (prepareGuard c b r) := by
  intro l s x t
  cases hw : (s.chan c).width with
  | none => simp [prepareGuard, hw]
  | some w => by_cases hs : (s.chan c).slot.isSome <;> simp [prepareGuard, hw, hs]

theorem ignoresPosition_checkIdentity : IgnoresPosition checkIdentity := by
  intro l s x t
  by_cases h : validPid s.params (l.value.setWidth 8) <;> simp [checkIdentity, h]

theorem ignoresPosition_emitDone (c : Chan) : IgnoresPosition (emitDone c) := by
  intro l s x t
  cases h : (s.chan c).cb <;> simp [emitDone, h]

theorem ignoresPosition_progEnable (c : Chan) : (progEnable c).Forall IgnoresPosition := by
  simp only [progEnable, List.Forall]
  refine ⟨fun _ _ _ _ => rfl, fun _ _ _ _ => rfl, ?flag, fun _ _ _ _ => rfl, ignoresPosition_act_regWrite c _ _,
    fun _ _ _ _ => rfl⟩
  intro l s x t
  by_cases h : (s.chan c).en <;> simp [h]

theorem ignoresPosition_progDisable (c : Chan) : (progDisable c).Forall IgnoresPosition := by
  simp only [progDisable, List.Forall]
  refine ⟨?flag, ignoresPosition_decrement, ignoresPosition_lastClockOff .d0, ignoresPosition_lastClockOff .d1,
    ignoresPosition_act_regWrite c _ _, fun _ _ _ _ => rfl⟩
  intro l s x t
  by_cases h : (s.chan c).en <;> simp [h]

theorem ignoresPosition_progPrepare (c : Chan) (p : BitVec 8) (b : Buffer) (r : Word) :
    (progPrepare c p b r).Forall IgnoresPosition := by
  simp only [progPrepare, List.Forall]
  refine ⟨ignoresPosition_prepareGuard c b r, ?mode, ignoresPosition_act_regWrite c _ _, ignoresPosition_act_regWrite c _ _,
    ?count, ignoresPosition_act_regWrite c _ _, fun _ _ _ _ => rfl⟩
  all_goals intro l s x t; simp

theorem ignoresPosition_progStart (c : Chan) : (progStart c).Forall IgnoresPosition := by
  simp only [progStart, List.Forall]
  exact ⟨ignoresPosition_act_regWrite c _ _, fun _ _ _ _ => rfl⟩

theorem ignoresPosition_progIrq (c : Chan) : (progIrq c).Forall IgnoresPosition := by
  simp only [progIrq, List.Forall]
  refine ⟨ignoresPosition_act_regWrite c _ _, fun _ _ _ _ => rfl, ?identity, ignoresPosition_checkIdentity,
    ignoresPosition_emitDone c, fun _ _ _ _ => rfl⟩
  intro l s x t
  simp [readIdentity]

theorem ignoresPosition_progAbort (c : Chan) : (progAbort c).Forall IgnoresPosition := by
  simp only [progAbort, List.Forall]
  exact ⟨ignoresPosition_act_regWrite c _ _, ignoresPosition_act_regWrite c _ _, fun _ _ _ _ => rfl, fun _ _ _ _ => rfl⟩

theorem ignoresPosition_progCount (c : Chan) : (progCount c).Forall IgnoresPosition :=
  fun l s x t => by simp

theorem ignoresPosition_program (i : Instr) : (program i).Forall IgnoresPosition := by
  cases i with
  | rdMar c | rdPsr c | rdTcr c | rdMarr c | rdTcrr c | rdCr c | rdMr c | rdSr c | rdIer c | rdIdr c | rdImr c | rdIsr c =>
    exact ignoresPosition_readMicro c _
  | wrMar c v | wrPsr c v | wrTcr c v | wrMarr c v | wrTcrr c v | wrCr c v | wrMr c v | wrSr c v | wrIer c v | wrIdr c v
  | wrImr c v | wrIsr c v => exact ignoresPosition_writeMicro c _ v
  | new c | isen c => exact fun _ _ _ _ => rfl
  | init c k w => exact ⟨fun _ _ _ _ => rfl, fun _ _ _ _ => rfl⟩
  | enable c => exact ignoresPosition_progEnable c
  | disable c => exact ignoresPosition_progDisable c
  | prepare c p b r => exact ignoresPosition_progPrepare c p b r
  | start c => exact ignoresPosition_progStart c
  | xfer c p b r => exact List.forall_append.2 ⟨ignoresPosition_progPrepare c p b r, ignoresPosition_progStart c⟩
  | irq c => exact ignoresPosition_progIrq c
  | abort c => exact ignoresPosition_progAbort c
  | count c => exact ignoresPosition_progCount c

/-- No micro-step of any operation sees the position. -/
theorem ignoresPosition_of_mem_program (i : Instr) : ∀ m ∈ program i, IgnoresPosition m :=
  List.forall_iff_forall_mem.1 (ignoresPosition_program i)

/-- An operation has at least one micro-step. -/
theorem program_ne_nil (i : Instr) : program i ≠ [] := by
  cases i <;> exact List.cons_ne_nil _ _

/-- Micro-steps that do not see the position run alike at every position. -/
theorem runMicros_awaiting (x : Context) (t : List Input) {ms : List Micro} (h : ∀ m ∈ ms, IgnoresPosition m) :
    ∀ l s, runMicros ms l (s.awaiting x t) = ((runMicros ms l s).1.awaiting x t, (runMicros ms l s).2) := by
  induction ms with
  | nil => intro l s; rfl
  | cons m ms ih =>
    obtain ⟨hm, hms⟩ := List.forall_mem_cons.1 h
    intro l s
    rw [runMicros_cons, runMicros_cons, hm l s x t]
    rcases m l s with ⟨u, l' | r⟩
    · exact ih hms l' u
    · rfl

/-- A whole operation keeps the position. -/
theorem runOp_awaiting (i : Instr) (s : State) (x : Context) (t : List Input) :
    runOp i (program i) (s.awaiting x t) = (runOp i (program i) s).awaiting x t := by
  simp [runOp, runMicros_awaiting x t (ignoresPosition_of_mem_program i)]

/-! ### One `normal` input -/

/-- A position does not see itself: its next micro-step is the same wherever the normal context stands. -/
theorem stepFrame_awaiting (f : Frame) (s : State) (x : Context) (t : List Input) :
    stepFrame f (s.awaiting x t) = ((stepFrame f s).1.awaiting x t, (stepFrame f s).2) := by
  unfold stepFrame
  cases hm : (program f.op)[f.idx]? with
  | none => simp
  | some m =>
    have hign := ignoresPosition_of_mem_program f.op m (List.mem_of_getElem? hm)
    dsimp only
    rw [hign f.loc s x t]
    rcases m f.loc s with ⟨u, l | r⟩
    · dsimp only; split <;> simp
    · simp

/-- With the normal context inside an operation, the input `normal` makes the next micro-step of that operation (R250). -/
theorem step_normal_running (f : Frame) (s : State) (t : List Input) :
    step (s.awaiting (.running f none) (.normal :: t)) =
      .next ((stepFrame f s).1.awaiting (((stepFrame f s).2.map (Context.running · none)).getD .idle) t) := by
  change Host.Outcome.next (normalStep (s.awaiting (.running f none) t)) = _
  simp only [normalStep, State.awaiting_active, State.awaiting_ctxN, stepContext, stepFrame_awaiting]
  rcases stepFrame f s with ⟨u, _ | f'⟩ <;> rfl

/-- With the normal context idle, the input `normal` is only taken off the tape (R250; log 15). -/
theorem step_normal_idle (s : State) (t : List Input) :
    step (s.awaiting .idle (.normal :: t)) = .next (s.awaiting .idle t) := rfl

/-- A micro-step that ends its operation (R240). -/
theorem stepFrame_of_done {op : Instr} {k : Nat} {m : Micro} {ms : List Micro} {l : Locals} {s u : State} {r : Option Resp}
    (hk : (program op).drop k = m :: ms) (hm : m l s = (u, .done r)) :
    stepFrame ⟨op, k, l⟩ s = (complete op r u, none) := by
  have hget : (program op)[k]? = some m := by rw [← List.head?_drop, hk, List.head?_cons]
  simp only [stepFrame, hget, hm]

/-- A micro-step after which its operation goes on: to the next position, or to the response `OK` if it was the last
(R104, R240). -/
theorem stepFrame_of_go {op : Instr} {k : Nat} {m : Micro} {ms : List Micro} {l l' : Locals} {s u : State}
    (hk : (program op).drop k = m :: ms) (hm : m l s = (u, .go l')) :
    stepFrame ⟨op, k, l⟩ s =
      if ms = [] then (complete op (some respOk) u, none) else (u, some ⟨op, k + 1, l'⟩) := by
  have hget : (program op)[k]? = some m := by rw [← List.head?_drop, hk, List.head?_cons]
  have hlen : (program op).length - k = ms.length + 1 := by rw [← List.length_drop, hk, List.length_cons]
  simp only [stepFrame, hget, hm]
  cases ms with
  | nil => rw [if_neg (by simp at hlen; omega), if_pos rfl]
  | cons m' ms' => rw [if_pos (by simp at hlen; omega), if_neg (List.cons_ne_nil _ _)]

/-! ### Runs of `normal` inputs -/

/-- A step of the machine that goes on, then the rest of the run. -/
theorem run_succ_of_step {s u : State} (n : Nat) (h : step s = .next u) :
    Host.Core.run Sys2Proof.core (n + 1) s = Host.Core.run Sys2Proof.core n u := by
  have hcore : Sys2Proof.core.step s = .next u := h
  simp only [Host.Core.run, hcore]

/-- The inputs `normal` that are left when an operation ended early change nothing. -/
theorem run_normals_idle (s : State) (t : List Input) (n : Nat) :
    Host.Core.run Sys2Proof.core n (s.awaiting .idle (List.replicate n .normal ++ t)) = .next (s.awaiting .idle t) := by
  induction n with
  | zero => rfl
  | succ n ih => rw [List.replicate_succ, List.cons_append, run_succ_of_step n (step_normal_idle s _), ih]

/-- From a position with the micro-steps `ms` left, one `normal` each, the run ends as `runMicros` does, with the response
recorded and the normal context idle. -/
theorem run_normals {op : Instr} (t : List Input) {ms : List Micro} (hne : ms ≠ []) :
    ∀ k l s, (program op).drop k = ms →
      Host.Core.run Sys2Proof.core ms.length
          (s.awaiting (.running ⟨op, k, l⟩ none) (List.replicate ms.length .normal ++ t)) =
        .next ((complete op (runMicros ms l s).2 (runMicros ms l s).1).awaiting .idle t) := by
  induction ms with
  | nil => exact absurd rfl hne
  | cons m ms ih =>
    intro k l s hk
    rw [List.length_cons, List.replicate_succ, List.cons_append, run_succ_of_step _ (step_normal_running _ _ _),
      runMicros_cons]
    rcases hm : m l s with ⟨u, l' | r⟩
    · rw [stepFrame_of_go hk hm]
      by_cases hms : ms = []
      · subst hms; rfl
      · rw [if_neg hms]
        exact ih hms (k + 1) l' u (by rw [← List.tail_drop, hk, List.tail_cons])
    · rw [stepFrame_of_done hk hm]
      exact run_normals_idle (complete op r u) t ms.length

/-! ### Decoded instructions -/

theorem readInstr_wellFormed (P : Params) (r : Reg) (c : Chan) : (readInstr r c).wellFormed P = true := by
  cases r <;> rfl

theorem wellFormed_of_writeInstr {P : Params} {r : Reg} {c : Chan} {v : Word} {i : Instr} (h : writeInstr r c v = .ok i) :
    i.wellFormed P = true := by
  cases r with
  | cr | mr =>
    simp only [writeInstr] at h
    split at h
    · cases h; assumption
    · cases h
  | _ => cases h; rfl

theorem wellFormed_of_decodeReg {P : Params} {w : BitVec 33} {d : Option Word} {n : Nat} {i : Instr}
    (h : decodeReg P w d n = .ok i) : i.wellFormed P = true := by
  unfold decodeReg at h
  split at h
  · split at h
    · cases h
    · split at h
      · cases h; exact readInstr_wellFormed P _ _
      · exact wellFormed_of_writeInstr h
      · cases h
  · cases h

theorem eq_of_onlyChannel {f : CmdFields} {i j : Instr} (h : onlyChannel f j = .ok i) : j = i := by
  unfold onlyChannel at h
  split at h
  · exact Except.ok.inj h
  · cases h

theorem wellFormed_of_decodeInit {P : Params} {f : CmdFields} {i : Instr} (h : decodeInit f = .ok i) :
    i.wellFormed P = true := by
  unfold decodeInit at h
  split at h
  · split at h <;> cases h
    rfl
  · cases h

theorem valid_of_decodeTransfer {P : Params} {f : CmdFields} {j : Chan → BitVec 8 → Buffer → Word → Instr} {i : Instr}
    (h : decodeTransfer P f j = .ok i) :
    validPid P f.pid = true ∧ j (chanOfField f.ch) f.pid ⟨f.a, f.blen⟩ f.rlen = i := by
  unfold decodeTransfer at h
  split at h
  · split at h
    · rename_i hp; exact ⟨hp, Except.ok.inj h⟩
    · cases h
  · cases h

theorem wellFormed_of_decodeFields {P : Params} {f : CmdFields} {i : Instr} (h : decodeFields P f = .ok i) :
    i.wellFormed P = true := by
  unfold decodeFields at h
  -- `split` numbers the opcodes from 1: `h_2` is `init`, `h_6` and `h_8` are `prepare` and `xfer`, `h_12` the reserved ones.
  split at h
  case h_2 => exact wellFormed_of_decodeInit h
  case h_6 | h_8 => obtain ⟨hp, rfl⟩ := valid_of_decodeTransfer h; exact hp
  case h_12 => cases h
  all_goals obtain rfl := eq_of_onlyChannel h; rfl

/-- What the decoder accepts is none of the forms that R105 refuses by value. -/
theorem wellFormed_of_decode {P : Params} {q : Request} {i : Instr} (h : decode P q = .ok i) : i.wellFormed P = true := by
  cases q with
  | reg w d n => exact wellFormed_of_decodeReg h
  | cmd x => exact wellFormed_of_decodeFields h

/-- The meaning of a well-formed instruction is its program run whole (R12). -/
theorem exec_of_wellFormed {i : Instr} {s : State} (h : i.wellFormed s.params = true) :
    exec i s = .next (runOp i (program i) s) := by
  cases i with
  | wrCr c v | wrMr c v | prepare c p b r | xfer c p b r => exact if_pos h
  | _ => rfl

/-- The input `accept` puts the idle normal context before the first micro-step of the decoded instruction (R250). -/
theorem step_accept {s : State} {q : Request} {i : Instr} (t : List Input) (h : decode s.params q = .ok i) :
    step (s.awaiting .idle (.accept q :: t)) = .next (s.awaiting (.running (Frame.start i) none) t) := by
  change acceptCommand q (s.awaiting .idle t) = _
  have hready : normalReady (s.awaiting .idle t) = true := rfl
  rw [acceptCommand, if_pos hready, State.awaiting_params, h]
  rfl

/-- Settles O52: after `accept`, the `normal` inputs run the program as `runMicros` does, and that is the instruction's
meaning. -/
theorem microStepsComposeToMeaning : Obligations.MicroStepsComposeToMeaning := by
  intro s q i t hactive hctx hdec hinputs
  have hs : s = s.awaiting .idle (.accept q :: (List.replicate (program i).length .normal ++ t)) := by
    rw [← List.cons_append, ← hinputs, ← hctx, State.awaiting_self hactive]
  have ht : { s with inputs := t } = s.awaiting .idle t := by
    rw [State.awaiting, ← hactive, ← hctx]
  refine ⟨(runOp i (program i) s).awaiting .idle t, ?meaning, ?run⟩
  case meaning =>
    have hwf : i.wellFormed (s.awaiting .idle t).params = true := wellFormed_of_decode hdec
    rw [ht, exec_of_wellFormed hwf, runOp_awaiting]
  case run =>
    calc Host.Core.run Sys2Proof.core ((program i).length + 1) s
        = Host.Core.run Sys2Proof.core ((program i).length + 1)
            (s.awaiting .idle (.accept q :: (List.replicate (program i).length .normal ++ t))) := congrArg _ hs
      _ = Host.Core.run Sys2Proof.core (program i).length
            (s.awaiting (.running (Frame.start i) none) (List.replicate (program i).length .normal ++ t)) :=
          run_succ_of_step _ (step_accept _ hdec)
      _ = .next ((runOp i (program i) s).awaiting .idle t) := run_normals t (program_ne_nil i) 0 {} s rfl

end Sys2Proof.Machine
end

section
/-! PROOF of the statements about the state of 10_state.md: the counter invariant (O24), the channel invariants (O53), the
line (O19), the mask (O57), who changes what (O58), the reset event (O55).

One layer carries the statements about instructions and steps: `MicroEffect i s t` says once what a micro-step of `i` can make
of the state, `ChannelEffect i x y` what it can make of its channel. Every micro-step of every program has such an effect
(`hasEffect_of_mem_program`), so an operation run whole and an operation run micro-step by micro-step are both chains of them
(`opEffect_of_exec`, `stepFrame_effect`), and an invariant needs one case analysis over `ChannelEffect`. -/

namespace Sys2Proof.Machine

/-! ### What a micro-step can do -/

/-- The register writes an instruction issues to its channel: its own word for a write primitive, the words of R164, R165,
R180, R182, R185 and R226 for an engine operation. -/
inductive IssuesWrite : Instr → Reg → Word → Prop where
  | wrMar (c : Chan) (v : Word) : IssuesWrite (.wrMar c v) .mar v
  | wrPsr (c : Chan) (v : Word) : IssuesWrite (.wrPsr c v) .psr v
  | wrTcr (c : Chan) (v : Word) : IssuesWrite (.wrTcr c v) .tcr v
  | wrMarr (c : Chan) (v : Word) : IssuesWrite (.wrMarr c v) .marr v
  | wrTcrr (c : Chan) (v : Word) : IssuesWrite (.wrTcrr c v) .tcrr v
  | wrCr (c : Chan) (v : Word) : IssuesWrite (.wrCr c v) .cr v
  | wrMr (c : Chan) (v : Word) : IssuesWrite (.wrMr c v) .mr v
  | wrSr (c : Chan) (v : Word) : IssuesWrite (.wrSr c v) .sr v
  | wrIer (c : Chan) (v : Word) : IssuesWrite (.wrIer c v) .ier v
  | wrIdr (c : Chan) (v : Word) : IssuesWrite (.wrIdr c v) .idr v
  | wrImr (c : Chan) (v : Word) : IssuesWrite (.wrImr c v) .imr v
  | wrIsr (c : Chan) (v : Word) : IssuesWrite (.wrIsr c v) .isr v
  | enable (c : Chan) : IssuesWrite (.enable c) .idr intAll
  | disable (c : Chan) : IssuesWrite (.disable c) .cr crTdis
  | prepareMode (c : Chan) (p : BitVec 8) (b : Buffer) (r v : Word) : IssuesWrite (.prepare c p b r) .mr v
  | preparePeriph (c : Chan) (p : BitVec 8) (b : Buffer) (r v : Word) : IssuesWrite (.prepare c p b r) .psr v
  | prepareAddr (c : Chan) (p : BitVec 8) (b : Buffer) (r v : Word) : IssuesWrite (.prepare c p b r) .marr v
  | prepareCount (c : Chan) (p : BitVec 8) (b : Buffer) (r v : Word) : IssuesWrite (.prepare c p b r) .tcrr v
  | prepareUnmask (c : Chan) (p : BitVec 8) (b : Buffer) (r : Word) : IssuesWrite (.prepare c p b r) .ier intTrc
  | start (c : Chan) : IssuesWrite (.start c) .cr crTen
  | irq (c : Chan) : IssuesWrite (.irq c) .idr intAll
  | abortMask (c : Chan) : IssuesWrite (.abort c) .idr intAll
  | abortStop (c : Chan) : IssuesWrite (.abort c) .tcr 0

/-- What one micro-step of an instruction can make of its channel: a landed register write, or one update of the engine side.
Those of `xfer` are those of its `prepare` half and of its `start` half (R183). -/
inductive ChannelEffect : Instr → Channel → Channel → Prop where
  | keep (i : Instr) (x : Channel) : ChannelEffect i x x
  | write {i : Instr} {r : Reg} {v : Word} (h : IssuesWrite i r v) (x : Channel) : ChannelEffect i x (channelWrite r v x)
  | callback (c : Chan) (k : Word) (w : Width) (x : Channel) : ChannelEffect (.init c k w) x { x with cb := some k }
  | width (c : Chan) (k : Word) (w : Width) (x : Channel) : ChannelEffect (.init c k w) x { x with width := some w }
  | enabled (c : Chan) (x : Channel) :
    ChannelEffect (.enable c) x { x with en := true, fsm := if x.fsm = .disabled then .idle else x.fsm }
  | disabled (c : Chan) (x : Channel) : ChannelEffect (.disable c) x { x with en := false, fsm := .disabled }
  | filled (c : Chan) (p : BitVec 8) (b : Buffer) (r : Word) (x : Channel) :
    ChannelEffect (.prepare c p b r) x { x with slot := some b, fsm := if x.fsm = .idle then .configured else x.fsm }
  | started (c : Chan) (x : Channel) :
    ChannelEffect (.start c) x { x with fsm := if x.fsm = .configured then .running else x.fsm }
  | ended (c : Chan) (x : Channel) : ChannelEffect (.irq c) x { x with fsm := toIdle x.fsm }
  | released (c : Chan) (x : Channel) : ChannelEffect (.abort c) x { x with slot := none, fsm := toIdle x.fsm }
  | ofPrepare {c : Chan} {p : BitVec 8} {b : Buffer} {r : Word} {x y : Channel} (h : ChannelEffect (.prepare c p b r) x y) :
    ChannelEffect (.xfer c p b r) x y
  | ofStart {c : Chan} {x y : Channel} (p : BitVec 8) (b : Buffer) (r : Word) (h : ChannelEffect (.start c) x y) :
    ChannelEffect (.xfer c p b r) x y

/-- What one micro-step of an instruction can make of the state: nothing outside the block's own state, nothing of another
channel, a `ChannelEffect` on its own; only `enable` and `disable` touch the shared counter and the clocks. -/
structure MicroEffect (i : Instr) (s t : State) : Prop where
  outside : sameOutside s t
  mem     : t.mem = s.mem
  other   : ∀ d, d ≠ instrChan i → t.chan d = s.chan d
  own     : ChannelEffect i (s.chan (instrChan i)) (t.chan (instrChan i))
  counter : countsChannels i = false → t.numEnabled = s.numEnabled ∧ t.clkOk = s.clkOk

/-- What an operation, or a part of one, can make of the state: the effects of its micro-steps in turn. -/
abbrev OpEffect (i : Instr) : State → State → Prop := Relation.ReflTransGen (MicroEffect i)

section
variable {i : Instr} {s : State}

theorem sameOutside_of_mem_eq {t : State} (hparams : t.params = s.params) (hactive : t.active = s.active)
    (hN : t.ctxN = s.ctxN) (hI : t.ctxI = s.ctxI) (hinputs : t.inputs = s.inputs) (hmemLog : t.memLog = s.memLog)
    (hperLog : t.perLog = s.perLog) (hhost : t.hostLog = s.hostLog) (hmem : t.mem = s.mem) : sameOutside s t :=
  ⟨hparams, hactive, hN, hI, hinputs, hmemLog, hperLog, hhost, fun _ => by rw [hmem]⟩

/-- A micro-step that touches neither a channel nor what is outside the block. -/
theorem microEffect_of_chan_eq {t : State} (houtside : sameOutside s t) (hmem : t.mem = s.mem)
    (hchan : ∀ d, t.chan d = s.chan d)
    (hcounter : countsChannels i = false → t.numEnabled = s.numEnabled ∧ t.clkOk = s.clkOk) : MicroEffect i s t :=
  ⟨houtside, hmem, fun d _ => hchan d, hchan (instrChan i) ▸ .keep i _, hcounter⟩

theorem microEffect_refl (i : Instr) (s : State) : MicroEffect i s s :=
  microEffect_of_chan_eq (sameOutside_of_mem_eq rfl rfl rfl rfl rfl rfl rfl rfl rfl) rfl (fun _ => rfl) fun _ => ⟨rfl, rfl⟩

theorem microEffect_logCb (i : Instr) (s : State) (e : CbEvent) : MicroEffect i s (s.logCb e) :=
  microEffect_of_chan_eq (sameOutside_of_mem_eq rfl rfl rfl rfl rfl rfl rfl rfl rfl) rfl (fun _ => rfl) fun _ => ⟨rfl, rfl⟩

theorem microEffect_logResp (i : Instr) (s : State) (e : RespEvent) : MicroEffect i s (s.logResp e) :=
  microEffect_of_chan_eq (sameOutside_of_mem_eq rfl rfl rfl rfl rfl rfl rfl rfl rfl) rfl (fun _ => rfl) fun _ => ⟨rfl, rfl⟩

theorem microEffect_complete (i op : Instr) (r : Option Resp) (s : State) : MicroEffect i s (complete op r s) := by
  cases r with
  | none => exact microEffect_refl i s
  | some r => exact microEffect_logResp i s ⟨op, r⟩

theorem microEffect_regRead (i : Instr) (c : Chan) (r : Reg) (s : State) : MicroEffect i s (regRead c r s).2 := by
  obtain ⟨d, h⟩ := regRead_eq c r s
  rw [h]
  exact microEffect_of_chan_eq (sameOutside_of_mem_eq rfl rfl rfl rfl rfl rfl rfl rfl rfl) rfl (fun _ => rfl)
    fun _ => ⟨rfl, rfl⟩

/-- A register write is an effect on its channel, whether it lands or is dropped (R120, R121). -/
theorem microEffect_regWrite {r : Reg} {v : Word} (h : IssuesWrite i r v) (s : State) :
    MicroEffect i s (regWrite (instrChan i) r v s) where
  outside := sameOutside_of_mem_eq (by simp) (by simp) (by simp) (by simp) (by simp) (by simp) (by simp) (by simp) (by simp)
  mem := by simp
  other d hd := regWrite_chan_other _ d r v s hd
  own := by
    rw [regWrite_chan_same]
    split
    · exact .write h _
    · exact .keep i _
  counter _ := ⟨by simp, by simp⟩

theorem microEffect_setChan {y : Channel} (h : ChannelEffect i (s.chan (instrChan i)) y) :
    MicroEffect i s (s.setChan (instrChan i) y) where
  outside := sameOutside_of_mem_eq rfl rfl rfl rfl rfl rfl rfl rfl rfl
  mem := rfl
  other d hd := State.setChan_chan_other s _ d y hd
  own := by rwa [State.setChan_chan_same]
  counter _ := ⟨rfl, rfl⟩

/-- `enable` and `disable` may set the shared counter, the clocks and the log of clock calls to anything. -/
theorem microEffect_count (h : countsChannels i = true) (s : State) (n : BitVec 32) (b0 b1 : Bool) (l : List ClkEvent) :
    MicroEffect i s { s with numEnabled := n, clk0 := b0, clk1 := b1, clkLog := l } :=
  microEffect_of_chan_eq (sameOutside_of_mem_eq rfl rfl rfl rfl rfl rfl rfl rfl rfl) rfl (fun _ => rfl)
    fun hf => nomatch h.symm.trans hf

end

/-! ### Every program's micro-steps -/

/-- The micro-step has an effect that instruction `i` may have. -/
def HasEffect (i : Instr) (m : Micro) : Prop := ∀ l s, MicroEffect i s (m l s).1

theorem hasEffect_readMicro (i : Instr) (c : Chan) (r : Reg) : HasEffect i (readMicro c r) :=
  fun _ s => microEffect_regRead i c r s

theorem hasEffect_writeMicro {i : Instr} {r : Reg} {v : Word} (h : IssuesWrite i r v) :
    HasEffect i (writeMicro (instrChan i) r v) := fun _ s => microEffect_regWrite h s

theorem hasEffect_act_regWrite {i : Instr} {r : Reg} {v : Word} (h : IssuesWrite i r v) :
    HasEffect i (act (regWrite (instrChan i) r v)) := fun _ s => microEffect_regWrite h s

theorem hasEffect_act_enableClock (c : Chan) (d : Domain) : HasEffect (.enable c) (act (enableClock d)) := by
  intro l s
  simp only [act, enableClock_eq]
  exact microEffect_count rfl s _ _ _ _

theorem hasEffect_lastClockOff (c : Chan) (d : Domain) : HasEffect (.disable c) (lastClockOff d) := by
  intro l s
  simp only [lastClockOff]
  split
  · rw [disableClock_eq]; exact microEffect_count rfl s _ _ _ _
  · exact microEffect_refl _ s

theorem hasEffect_decrement (c : Chan) : HasEffect (.disable c) decrement := by
  intro l s
  obtain ⟨-, h⟩ | ⟨-, h⟩ := fetchSub_cases s
  · simp only [decrement, h]; exact microEffect_refl _ s
  · simp only [decrement, h]; exact microEffect_count rfl s _ _ _ _

theorem hasEffect_prepareGuard (i : Instr) (c : Chan) (b : Buffer) (r : Word) : HasEffect i (prepareGuard c b r) := by
  intro l s
  cases hw : (s.chan c).width with
  | none => simpa [prepareGuard, hw] using microEffect_refl i s
  | some w => by_cases hs : (s.chan c).slot.isSome <;> simpa [prepareGuard, hw, hs] using microEffect_refl i s

theorem hasEffect_checkIdentity (i : Instr) : HasEffect i checkIdentity := by
  intro l s
  simp only [checkIdentity]
  split <;> exact microEffect_refl i s

theorem hasEffect_emitDone (i : Instr) (c : Chan) : HasEffect i (emitDone c) := by
  intro l s
  cases h : (s.chan c).cb with
  | none => simpa [emitDone, h] using microEffect_refl i s
  | some k => simpa [emitDone, h] using microEffect_logCb i s ⟨k, l.value.setWidth 8⟩

/-- A micro-step that looks at the state and goes on or answers. -/
theorem hasEffect_of_state_eq {m : Micro} (i : Instr) (h : ∀ l s, (m l s).1 = s) : HasEffect i m :=
  fun l s => (h l s).symm ▸ microEffect_refl i s

theorem hasEffect_progEnable (c : Chan) : (progEnable c).Forall (HasEffect (.enable c)) := by
  simp only [progEnable, List.Forall]
  refine ⟨hasEffect_act_enableClock c .d0, hasEffect_act_enableClock c .d1, hasEffect_of_state_eq _ ?flag,
    fun l s => microEffect_count rfl s (s.numEnabled + 1) s.clk0 s.clk1 s.clkLog, hasEffect_act_regWrite (.enable c),
    fun l s => microEffect_setChan (.enabled c _)⟩
  intro l s
  split <;> rfl

theorem hasEffect_progDisable (c : Chan) : (progDisable c).Forall (HasEffect (.disable c)) := by
  simp only [progDisable, List.Forall]
  refine ⟨hasEffect_of_state_eq _ ?flag, hasEffect_decrement c, hasEffect_lastClockOff c .d0, hasEffect_lastClockOff c .d1,
    hasEffect_act_regWrite (.disable c), fun l s => microEffect_setChan (.disabled c _)⟩
  intro l s
  split <;> rfl

theorem hasEffect_progPrepare (c : Chan) (p : BitVec 8) (b : Buffer) (r : Word) :
    (progPrepare c p b r).Forall (HasEffect (.prepare c p b r)) := by
  simp only [progPrepare, List.Forall]
  exact ⟨hasEffect_prepareGuard _ c b r, fun l s => microEffect_regWrite (.prepareMode c p b r _) s,
    hasEffect_act_regWrite (.preparePeriph c p b r _), hasEffect_act_regWrite (.prepareAddr c p b r _),
    fun l s => microEffect_regWrite (.prepareCount c p b r _) s, hasEffect_act_regWrite (.prepareUnmask c p b r),
    fun l s => microEffect_setChan (.filled c p b r _)⟩

theorem hasEffect_progStart (c : Chan) : (progStart c).Forall (HasEffect (.start c)) := by
  simp only [progStart, List.Forall]
  exact ⟨hasEffect_act_regWrite (.start c), fun l s => microEffect_setChan (.started c _)⟩

/-- A micro-step of the `prepare` half of `xfer` (R183). -/
theorem HasEffect.xfer_of_prepare {c : Chan} {p : BitVec 8} {b : Buffer} {r : Word} {m : Micro}
    (h : HasEffect (.prepare c p b r) m) : HasEffect (.xfer c p b r) m := fun l s =>
  { h l s with own := .ofPrepare (h l s).own }

/-- A micro-step of the `start` half of `xfer` (R183). -/
theorem HasEffect.xfer_of_start {c : Chan} {p : BitVec 8} {b : Buffer} {r : Word} {m : Micro}
    (h : HasEffect (.start c) m) : HasEffect (.xfer c p b r) m := fun l s =>
  { h l s with own := .ofStart p b r (h l s).own }

theorem hasEffect_progXfer (c : Chan) (p : BitVec 8) (b : Buffer) (r : Word) :
    (progXfer c p b r).Forall (HasEffect (.xfer c p b r)) :=
  List.forall_append.2 ⟨(hasEffect_progPrepare c p b r).imp fun _ => HasEffect.xfer_of_prepare,
    (hasEffect_progStart c).imp fun _ => HasEffect.xfer_of_start⟩

theorem hasEffect_progIrq (c : Chan) : (progIrq c).Forall (HasEffect (.irq c)) := by
  simp only [progIrq, List.Forall]
  exact ⟨hasEffect_act_regWrite (.irq c), fun l s => microEffect_setChan (.ended c _),
    fun l s => microEffect_regRead _ c .psr s, hasEffect_checkIdentity _, hasEffect_emitDone _ c,
    hasEffect_of_state_eq _ fun _ _ => rfl⟩

theorem hasEffect_progAbort (c : Chan) : (progAbort c).Forall (HasEffect (.abort c)) := by
  simp only [progAbort, List.Forall]
  exact ⟨hasEffect_act_regWrite (.abortMask c), hasEffect_act_regWrite (.abortStop c),
    fun l s => microEffect_setChan (.released c _), hasEffect_of_state_eq _ fun _ _ => rfl⟩

theorem hasEffect_program (i : Instr) : (program i).Forall (HasEffect i) := by
  cases i with
  | rdMar c | rdPsr c | rdTcr c | rdMarr c | rdTcrr c | rdCr c | rdMr c | rdSr c | rdIer c | rdIdr c | rdImr c | rdIsr c =>
    exact hasEffect_readMicro _ c _
  | wrMar c v => exact hasEffect_writeMicro (.wrMar c v)
  | wrPsr c v => exact hasEffect_writeMicro (.wrPsr c v)
  | wrTcr c v => exact hasEffect_writeMicro (.wrTcr c v)
  | wrMarr c v => exact hasEffect_writeMicro (.wrMarr c v)
  | wrTcrr c v => exact hasEffect_writeMicro (.wrTcrr c v)
  | wrCr c v => exact hasEffect_writeMicro (.wrCr c v)
  | wrMr c v => exact hasEffect_writeMicro (.wrMr c v)
  | wrSr c v => exact hasEffect_writeMicro (.wrSr c v)
  | wrIer c v => exact hasEffect_writeMicro (.wrIer c v)
  | wrIdr c v => exact hasEffect_writeMicro (.wrIdr c v)
  | wrImr c v => exact hasEffect_writeMicro (.wrImr c v)
  | wrIsr c v => exact hasEffect_writeMicro (.wrIsr c v)
  | new c | isen c => exact hasEffect_of_state_eq _ fun _ _ => rfl
  | init c k w =>
    exact ⟨fun l s => microEffect_setChan (.callback c k w _), fun l s => microEffect_setChan (.width c k w _)⟩
  | enable c => exact hasEffect_progEnable c
  | disable c => exact hasEffect_progDisable c
  | prepare c p b r => exact hasEffect_progPrepare c p b r
  | start c => exact hasEffect_progStart c
  | xfer c p b r => exact hasEffect_progXfer c p b r
  | irq c => exact hasEffect_progIrq c
  | abort c => exact hasEffect_progAbort c
  | count c => exact fun l s => microEffect_regRead _ c .tcr s

/-- Every micro-step of every instruction has an effect of that instruction. -/
theorem hasEffect_of_mem_program (i : Instr) : ∀ m ∈ program i, HasEffect i m :=
  List.forall_iff_forall_mem.1 (hasEffect_program i)

/-! ### Operations as chains of effects -/

theorem runMicros_effect {i : Instr} {ms : List Micro} (hms : ∀ m ∈ ms, HasEffect i m) :
    ∀ l s, OpEffect i s (runMicros ms l s).1 := by
  induction ms with
  | nil => exact fun l s => .refl
  | cons m ms ih =>
    obtain ⟨hm, hms⟩ := List.forall_mem_cons.1 hms
    intro l s
    have hstep := hm l s
    rw [runMicros_cons]
    rcases hml : m l s with ⟨u, l' | r⟩ <;> rw [hml] at hstep
    · exact .head hstep (ih hms l' u)
    · exact .single hstep

theorem runOp_effect (i : Instr) (s : State) : OpEffect i s (runOp i (program i) s) :=
  .tail (runMicros_effect (hasEffect_of_mem_program i) {} s) (microEffect_complete i i _ _)

/-- The meaning of an instruction, where it has one, is its program run whole (R12, R105). -/
theorem eq_runOp_of_exec {i : Instr} {s t : State} (h : exec i s = .next t) : t = runOp i (program i) s := by
  by_cases hwf : i.wellFormed s.params = true
  · rw [exec_of_wellFormed hwf] at h
    exact (Host.Outcome.next.inj h).symm
  · cases i with
    | wrCr c v | wrMr c v | prepare c p b r | xfer c p b r => exact absurd ((if_neg hwf).symm.trans h) nofun
    | _ => exact absurd rfl hwf

/-- An instruction run whole has an effect of that instruction. -/
theorem opEffect_of_exec {i : Instr} {s t : State} (h : exec i s = .next t) : OpEffect i s t :=
  eq_runOp_of_exec h ▸ runOp_effect i s

/-- The next micro-step of a position has an effect of the operation it stands in. -/
theorem stepFrame_effect (f : Frame) (s : State) : OpEffect f.op s (stepFrame f s).1 := by
  unfold stepFrame
  cases hm : (program f.op)[f.idx]? with
  | none => exact .single (microEffect_complete f.op f.op (some respOk) s)
  | some m =>
    have hstep := hasEffect_of_mem_program f.op m (List.mem_of_getElem? hm) f.loc s
    dsimp only
    rcases hml : m f.loc s with ⟨u, l | r⟩ <;> rw [hml] at hstep <;> dsimp only
    · split
      · exact .single hstep
      · exact .tail (.single hstep) (microEffect_complete f.op f.op (some respOk) u)
    · exact .tail (.single hstep) (microEffect_complete f.op f.op r u)

section
variable {i : Instr} {s t : State}

/-- What every effect of an instruction keeps, the instruction keeps. -/
theorem OpEffect.keeps {P : State → Prop} (h : OpEffect i s t) (hP : ∀ u v, MicroEffect i u v → P u → P v)
    (hs : P s) : P t := by
  induction h with
  | refl => exact hs
  | tail _ hstep ih => exact hP _ _ hstep ih

/-- What every effect of an instruction keeps of each channel, the instruction keeps. -/
theorem OpEffect.keeps_chan {P : Channel → Prop} (h : OpEffect i s t) (hP : ∀ x y, ChannelEffect i x y → P x → P y)
    (c : Chan) (hs : P (s.chan c)) : P (t.chan c) := by
  refine h.keeps (P := fun u => P (u.chan c)) (fun u v huv hu => ?_) hs
  by_cases hc : c = instrChan i
  · subst hc; exact hP _ _ huv.own hu
  · rw [huv.other c hc]; exact hu

theorem OpEffect.outside (h : OpEffect i s t) : sameOutside s t ∧ t.mem = s.mem := by
  refine h.keeps (P := fun u => sameOutside s u ∧ u.mem = s.mem) (fun u v huv ⟨hu, hmem⟩ => ?_)
    ⟨(microEffect_refl i s).outside, rfl⟩
  obtain ⟨hparams, hactive, hN, hI, hinputs, hmemLog, hperLog, hhost, -⟩ := hu
  obtain ⟨hparams', hactive', hN', hI', hinputs', hmemLog', hperLog', hhost', -⟩ := huv.outside
  have hmem' := huv.mem.trans hmem
  exact ⟨sameOutside_of_mem_eq (hparams'.trans hparams) (hactive'.trans hactive) (hN'.trans hN) (hI'.trans hI)
    (hinputs'.trans hinputs) (hmemLog'.trans hmemLog) (hperLog'.trans hperLog) (hhost'.trans hhost) hmem', hmem'⟩

theorem OpEffect.chan_other (h : OpEffect i s t) {d : Chan} (hd : d ≠ instrChan i) : t.chan d = s.chan d :=
  h.keeps (P := fun u => u.chan d = s.chan d) (fun _ _ huv hu => (huv.other d hd).trans hu) rfl

theorem OpEffect.counter (h : OpEffect i s t) (hi : countsChannels i = false) :
    t.numEnabled = s.numEnabled ∧ t.clkOk = s.clkOk :=
  h.keeps (P := fun u => u.numEnabled = s.numEnabled ∧ u.clkOk = s.clkOk)
    (fun _ _ huv ⟨hn, hclk⟩ => ⟨(huv.counter hi).1.trans hn, (huv.counter hi).2.trans hclk⟩) ⟨rfl, rfl⟩

end

/-! ### What the effects keep of a channel -/

/-- A landed write changes the mode through `MR` only, and to an admitted size (R136). -/
theorem channelWrite_mr (r : Reg) (v : Word) (x : Channel) : (channelWrite r v x).mr =
    if r = .mr ∧ mrAdmitted v = true then (v.setWidth 2).setWidth 4 else x.mr := by
  cases r with
  | cr => simp only [channelWrite, regUpdate, Channel.latch_mr, Channel.normalise_mr]; split <;> rfl
  | mr => by_cases hv : mrAdmitted v = true <;> simp [channelWrite, regUpdate, hv]
  | _ => simp [channelWrite, regUpdate]

/-- No landed write makes the mode illegal (INV6). -/
theorem channelWrite_modeLegal (r : Reg) (v : Word) {x : Channel} (h : x.modeLegal) : (channelWrite r v x).modeLegal := by
  have hsize : ∀ b : BitVec 2, (widthOfCode b).isSome = true →
      b.setWidth 4 = 0 ∨ b.setWidth 4 = 1 ∨ b.setWidth 4 = 2 := by decide
  unfold Channel.modeLegal
  rw [channelWrite_mr]
  split
  next hv => exact hsize _ (Bool.and_eq_true_iff.1 hv.2).2
  next => exact h

/-- A landed write changes the mask through `IER` and `IDR` only (R140, R142). -/
theorem channelWrite_imr (r : Reg) (v : Word) (x : Channel) : (channelWrite r v x).imr =
    if r = .ier then x.imr ||| v.setWidth 3 else if r = .idr then x.imr &&& ~~~(v.setWidth 3) else x.imr := by
  cases r with
  | cr | mr => simp only [channelWrite, regUpdate, Channel.latch_imr, Channel.normalise_imr]; split <;> rfl
  | _ => simp [channelWrite, regUpdate]

/-- A landed write changes `SR.TEN` through `CR` only (R134). -/
theorem channelWrite_ten {r : Reg} (v : Word) (x : Channel) (h : r ≠ .cr) : (channelWrite r v x).ten = x.ten := by
  cases r with
  | cr => exact absurd rfl h
  | mr => simp only [channelWrite, regUpdate, Channel.latch_ten, Channel.normalise_ten]; split <;> rfl
  | _ => simp [channelWrite, regUpdate]

@[simp] theorem toIdle_eq_disabled_iff (f : Lifecycle) : toIdle f = .disabled ↔ f = .disabled := by
  cases f <;> simp [toIdle]

@[simp] theorem toIdle_ne_configured (f : Lifecycle) : toIdle f ≠ .configured := by
  cases f <;> simp [toIdle]

@[simp] theorem toIdle_ne_running (f : Lifecycle) : toIdle f ≠ .running := by
  cases f <;> simp [toIdle]

/-- INV3 is kept where the flag stays and the lifecycle state neither becomes nor leaves `Disabled`. -/
theorem Channel.flagMatchesFsm_of_iff {x y : Channel} (hx : x.flagMatchesFsm) (hen : y.en = x.en)
    (hfsm : y.fsm = .disabled ↔ x.fsm = .disabled) : y.flagMatchesFsm := by
  unfold Channel.flagMatchesFsm
  rw [hen]
  exact hfsm.trans hx

/-- Every effect of every instruction keeps INV3 to INV6 (R46). -/
theorem ChannelEffect.inv {i : Instr} {x y : Channel} (h : ChannelEffect i x y) (hx : x.inv) : y.inv := by
  induction h with
  | ofPrepare _ ih | ofStart _ _ _ _ ih => exact ih hx
  | keep | callback | width => exact hx
  | @write _ r v _ x =>
    obtain ⟨hset, hmode, hflag, hslot⟩ := hx
    refine ⟨channelWrite_settled r v hset, channelWrite_modeLegal r v hmode,
      Channel.flagMatchesFsm_of_iff hflag (channelWrite_en r v x) (by rw [channelWrite_fsm]), ?_⟩
    unfold Channel.slotMatchesFsm
    rw [channelWrite_fsm, channelWrite_slot]
    exact hslot
  | enabled c x =>
    obtain ⟨hset, hmode, -, hslot⟩ := hx
    refine ⟨hset, hmode, iff_of_false ?_ nofun, fun hy => hslot ?_⟩
    · cases hf : x.fsm <;> simp
    · cases hf : x.fsm <;> simp_all
  | disabled c x =>
    obtain ⟨hset, hmode, -, -⟩ := hx
    exact ⟨hset, hmode, iff_of_true rfl rfl, nofun⟩
  | filled c p b r x =>
    obtain ⟨hset, hmode, hflag, -⟩ := hx
    refine ⟨hset, hmode, Channel.flagMatchesFsm_of_iff hflag rfl ?_, fun _ => nofun⟩
    cases hf : x.fsm <;> simp
  | started c x =>
    obtain ⟨hset, hmode, hflag, hslot⟩ := hx
    refine ⟨hset, hmode, Channel.flagMatchesFsm_of_iff hflag rfl ?_, fun hy => hslot ?_⟩
    · cases hf : x.fsm <;> simp
    · cases hf : x.fsm <;> simp_all
  | ended c x | released c x =>
    obtain ⟨hset, hmode, hflag, -⟩ := hx
    exact ⟨hset, hmode, Channel.flagMatchesFsm_of_iff hflag rfl (toIdle_eq_disabled_iff _),
      fun hy => (hy.elim (toIdle_ne_configured _) (toIdle_ne_running _)).elim⟩

/-- Only `enable` and `disable` change the flag (R38). -/
theorem ChannelEffect.en {i : Instr} {x y : Channel} (h : ChannelEffect i x y) (hi : countsChannels i = false) :
    y.en = x.en := by
  induction h with
  | write hw x => exact channelWrite_en _ _ x
  | enabled | disabled => exact absurd hi nofun
  | ofPrepare _ ih | ofStart _ _ _ _ ih => exact ih rfl
  | _ => rfl

/-- The engine operations unmask `TRC` and mask everything, and write the mask in no other way, so it stays legal (R32). -/
theorem ChannelEffect.maskLegal {i : Instr} {x y : Channel} (h : ChannelEffect i x y) (hi : isRegisterAccess i = false)
    (hx : x.maskLegal) : y.maskLegal := by
  induction h with
  | write hw x =>
    unfold Channel.maskLegal at *
    rw [channelWrite_imr]
    cases hw with
    | enable | irq | abortMask | prepareUnmask => obtain hm | hm := hx <;> simp [hm, intAll, intTrc]
    | disable | prepareMode | preparePeriph | prepareAddr | prepareCount | start | abortStop => simpa using hx
    | _ => exact absurd hi nofun
  | ofPrepare _ ih | ofStart _ _ _ _ ih => exact ih rfl hx
  | _ => exact hx

/-- Who can change `SR.TEN`: the instructions that write `CR` with `TEN` or `TDIS` (R30). -/
theorem ChannelEffect.ten {i : Instr} {x y : Channel} (h : ChannelEffect i x y) :
    y.ten = x.ten ∨ (∃ v, i = .wrCr (instrChan i) v) ∨ i = .start (instrChan i) ∨ i = .disable (instrChan i) ∨
      ∃ p b r, i = .xfer (instrChan i) p b r := by
  cases h with
  | @write _ r v hw _ =>
    by_cases hr : r = .cr
    · subst hr; cases hw <;> simp [instrChan]
    · exact .inl (channelWrite_ten v x hr)
  | ofPrepare | ofStart => simp [instrChan]
  | _ => exact .inl rfl

/-- Who can change the slot: `prepare`, `xfer` and `abort` (R39). -/
theorem ChannelEffect.slot {i : Instr} {x y : Channel} (h : ChannelEffect i x y) :
    y.slot = x.slot ∨ (∃ p b r, i = .prepare (instrChan i) p b r ∨ i = .xfer (instrChan i) p b r) ∨
      i = .abort (instrChan i) := by
  cases h with
  | write hw x => exact .inl (channelWrite_slot _ _ x)
  | filled | ofPrepare | ofStart | released => simp [instrChan]
  | _ => exact .inl rfl

/-- Who can change the callback: `init` (R36). -/
theorem ChannelEffect.cb {i : Instr} {x y : Channel} (h : ChannelEffect i x y) :
    y.cb = x.cb ∨ ∃ k w, i = .init (instrChan i) k w := by
  induction h with
  | write hw x => exact .inl (channelWrite_cb _ _ x)
  | callback => simp [instrChan]
  | ofPrepare _ ih | ofStart _ _ _ _ ih => simpa using ih
  | _ => exact .inl rfl

/-- An instruction keeps a field of a channel, unless the channel is its own and the instruction is one (`Q`) that can change
the field. -/
theorem OpEffect.eq_or {α : Type} (f : Channel → α) {Q : Prop} {i : Instr} {s t : State} (h : OpEffect i s t)
    (hf : ∀ x y, ChannelEffect i x y → f y = f x ∨ Q) (c : Chan) :
    f (t.chan c) = f (s.chan c) ∨ (c = instrChan i ∧ Q) := by
  by_cases hQ : c = instrChan i ∧ Q
  · exact .inr hQ
  · left
    by_cases hc : c = instrChan i
    · have hkeep : ∀ x y, ChannelEffect i x y → f y = f x := fun x y hxy =>
        (hf x y hxy).resolve_right fun q => hQ ⟨hc, q⟩
      exact h.keeps_chan (P := fun x => f x = f (s.chan c)) (fun x y hxy hx => (hkeep x y hxy).trans hx) c rfl
    · rw [h.chan_other hc]

/-- `abort` keeps a slot or empties it (R185). -/
theorem OpEffect.slot_of_abort {c : Chan} {s t : State} (h : OpEffect (.abort c) s t) (d : Chan) :
    (t.chan d).slot = (s.chan d).slot ∨ (t.chan d).slot = none := by
  refine h.keeps_chan (P := fun x => x.slot = (s.chan d).slot ∨ x.slot = none) (fun x y hxy hx => ?_) d (.inl rfl)
  cases hxy with
  | keep => exact hx
  | write hw x => rwa [channelWrite_slot]
  | released => exact .inr rfl

theorem OpEffect.en {i : Instr} {s t : State} (h : OpEffect i s t) (hi : countsChannels i = false) (c : Chan) :
    (t.chan c).en = (s.chan c).en :=
  h.keeps_chan (P := fun x => x.en = (s.chan c).en) (fun _ _ hxy hx => (hxy.en hi).trans hx) c rfl

/-! ### The number of enabled channels -/

theorem State.enabledCount_eq_card (s : State) :
    s.enabledCount = (Finset.univ.filter fun c : Chan => (s.chan c).en = true).card := by
  simp [State.enabledCount, List.countP_eq_length_filter, Finset.card, Finset.filter, Fin.univ_def]

theorem State.enabledCount_le (s : State) : s.enabledCount ≤ 16 := by
  rw [s.enabledCount_eq_card]
  exact Finset.card_le_univ _

theorem State.enabledCount_congr {s t : State} (h : ∀ c, (t.chan c).en = (s.chan c).en) :
    t.enabledCount = s.enabledCount := by
  simp only [State.enabledCount, h]

/-- Setting the flag of one channel adds one to the number of enabled channels. -/
theorem State.enabledCount_succ {s t : State} (c : Chan) (hs : (s.chan c).en = false) (ht : (t.chan c).en = true)
    (h : ∀ d, d ≠ c → (t.chan d).en = (s.chan d).en) : t.enabledCount = s.enabledCount + 1 := by
  rw [t.enabledCount_eq_card, s.enabledCount_eq_card,
    ← Finset.card_insert_of_notMem (a := c) (by simp [hs])]
  congr 1
  ext d
  by_cases hd : d = c
  · subst hd; simp [ht]
  · simp [hd, h d hd]

/-- INV1 and INV8 depend on the counter, the flags and the clocks only, and a clock going on does no harm. -/
theorem State.counterInv_congr {s t : State} (hn : t.numEnabled = s.numEnabled) (hen : ∀ c, (t.chan c).en = (s.chan c).en)
    (hclk : s.clkOk = true → t.clkOk = true) (h : s.counterInv) : t.counterInv := by
  obtain ⟨hcount, hclocked⟩ := h
  refine ⟨?_, fun hne => hclk (hclocked (hn ▸ hne))⟩
  rw [hn, State.enabledCount_congr hen, hcount]

/-- INV1 and INV8 where one more channel is enabled, the counter is one higher and the block is clocked. The count of sixteen
channels does not wrap. -/
theorem State.counterInv_succ {s t : State} (c : Chan) (hs : (s.chan c).en = false) (ht : (t.chan c).en = true)
    (hother : ∀ d, d ≠ c → (t.chan d).en = (s.chan d).en) (hn : t.numEnabled = s.numEnabled + 1) (hclk : t.clkOk = true)
    (h : s.counterInv) : t.counterInv := by
  obtain ⟨hcount, -⟩ := h
  have hle := s.enabledCount_le
  refine ⟨?_, fun _ => hclk⟩
  rw [State.enabledCount_succ c hs ht hother, hn]
  bv_omega

/-- INV1 and INV8 where one channel less is enabled and the counter is one lower. -/
theorem State.counterInv_pred {s t : State} (c : Chan) (hs : (s.chan c).en = true) (ht : (t.chan c).en = false)
    (hother : ∀ d, d ≠ c → (t.chan d).en = (s.chan d).en) (hn : t.numEnabled = s.numEnabled - 1)
    (hclk : s.numEnabled ≠ 1 → s.clkOk = true → t.clkOk = true) (h : s.counterInv) : t.counterInv := by
  obtain ⟨hcount, hclocked⟩ := h
  have hsucc := State.enabledCount_succ c ht hs fun d hd => (hother d hd).symm
  rw [hsucc] at hcount
  refine ⟨by bv_omega, fun hne => hclk (fun h1 => hne (by rw [hn, h1]; rfl)) (hclocked ?_)⟩
  bv_omega

/-! ### `enable` and `disable` run whole -/

@[simp] theorem enableClock_numEnabled (d : Domain) (s : State) : (enableClock d s).numEnabled = s.numEnabled := by
  rw [enableClock_eq]

@[simp] theorem enableClock_chan (d : Domain) (s : State) (c : Chan) : (enableClock d s).chan c = s.chan c := by
  rw [enableClock_eq]; rfl

@[simp] theorem disableClock_numEnabled (d : Domain) (s : State) : (disableClock d s).numEnabled = s.numEnabled := by
  rw [disableClock_eq]

@[simp] theorem disableClock_chan (d : Domain) (s : State) (c : Chan) : (disableClock d s).chan c = s.chan c := by
  rw [disableClock_eq]; rfl

@[simp] theorem fetchAdd_chan (s : State) (c : Chan) : (fetchAdd s).chan c = s.chan c := rfl

/-- Requesting both domains leaves the block clocked (R42, R161). -/
theorem enableClock_both_clkOk (s : State) : (enableClock .d1 (enableClock .d0 s)).clkOk = true := by
  simp [State.clkOk, enableClock_eq]

/-- `enable` of an enabled channel requests the clocks and answers (R164). -/
theorem runOp_enable_of_en {s : State} {c : Chan} (h : (s.chan c).en = true) :
    runOp (.enable c) (program (.enable c)) s = (enableClock .d1 (enableClock .d0 s)).logResp ⟨.enable c, respOk⟩ := by
  simp [runOp, program, progEnable, runMicros, act, h, complete]

/-- `enable` of a channel that is not enabled: clocks, counter, mask, flag (R164). -/
theorem runOp_enable_of_not_en {s : State} {c : Chan} (h : (s.chan c).en = false) :
    runOp (.enable c) (program (.enable c)) s =
      (setEnabled c (regWrite c .idr intAll (fetchAdd (enableClock .d1 (enableClock .d0 s))))).logResp
        ⟨.enable c, respOk⟩ := by
  simp [runOp, program, progEnable, runMicros, act, h, complete]

/-- `disable` of a channel that is not enabled only answers (R165). -/
theorem runOp_disable_of_not_en {s : State} {c : Chan} (h : (s.chan c).en = false) :
    runOp (.disable c) (program (.disable c)) s = s.logResp ⟨.disable c, respOk⟩ := by
  simp [runOp, program, progDisable, runMicros, h, complete]

/-- The clocks after the decrement of the counter from `old`: off if that was the last enabled channel (R165). -/
def clocksAfterDisable (old : BitVec 32) (s : State) : State :=
  if old = 1 then disableClock .d1 (disableClock .d0 s) else s

/-- `disable` of an enabled channel while the counter is not 0: counter, clocks, `TDIS`, flag (R165). -/
theorem runOp_disable_of_en {s : State} {c : Chan} (h : (s.chan c).en = true) (hn : s.numEnabled ≠ 0) :
    runOp (.disable c) (program (.disable c)) s =
      (setDisabled c (regWrite c .cr crTdis
        (clocksAfterDisable s.numEnabled { s with numEnabled := s.numEnabled - 1 }))).logResp ⟨.disable c, respOk⟩ := by
  obtain ⟨h0, -⟩ | ⟨-, hsub⟩ := fetchSub_cases s
  · exact absurd h0 hn
  · by_cases h1 : s.numEnabled = 1#32 <;>
      simp [runOp, program, progDisable, runMicros, act, h, complete, decrement, hsub, lastClockOff, clocksAfterDisable, h1]

@[simp] theorem fetchAdd_numEnabled (s : State) : (fetchAdd s).numEnabled = s.numEnabled + 1 := rfl
@[simp] theorem fetchAdd_clkOk (s : State) : (fetchAdd s).clkOk = s.clkOk := rfl
@[simp] theorem setEnabled_numEnabled (c : Chan) (s : State) : (setEnabled c s).numEnabled = s.numEnabled := rfl
@[simp] theorem setEnabled_clkOk (c : Chan) (s : State) : (setEnabled c s).clkOk = s.clkOk := rfl
@[simp] theorem setDisabled_numEnabled (c : Chan) (s : State) : (setDisabled c s).numEnabled = s.numEnabled := rfl
@[simp] theorem setDisabled_clkOk (c : Chan) (s : State) : (setDisabled c s).clkOk = s.clkOk := rfl

@[simp] theorem clocksAfterDisable_numEnabled (old : BitVec 32) (s : State) :
    (clocksAfterDisable old s).numEnabled = s.numEnabled := by
  unfold clocksAfterDisable; split <;> simp

@[simp] theorem clocksAfterDisable_chan (old : BitVec 32) (s : State) (c : Chan) :
    (clocksAfterDisable old s).chan c = s.chan c := by
  unfold clocksAfterDisable; split <;> simp

@[simp] theorem setEnabled_en (c d : Chan) (s : State) :
    ((setEnabled c s).chan d).en = if d = c then true else (s.chan d).en := by
  rw [setEnabled, State.setChan_chan]; split <;> rfl

@[simp] theorem setDisabled_en (c d : Chan) (s : State) :
    ((setDisabled c s).chan d).en = if d = c then false else (s.chan d).en := by
  rw [setDisabled, State.setChan_chan]; split <;> rfl

/-- No register write changes a flag (R38). -/
@[simp] theorem regWrite_en (c d : Chan) (r : Reg) (v : Word) (s : State) :
    ((regWrite c r v s).chan d).en = (s.chan d).en := by
  by_cases hd : d = c
  · subst hd; rw [regWrite_chan_same]; split <;> simp
  · rw [regWrite_chan_other c d r v s hd]

/-- `enable` run whole keeps INV1 and INV8: flag and counter go up together, and the clocks are on (R164, R167). -/
theorem counterInv_enable {s : State} (c : Chan) (h : s.counterInv) :
    (runOp (.enable c) (program (.enable c)) s).counterInv := by
  have hclk := enableClock_both_clkOk s
  cases hen : (s.chan c).en with
  | true =>
    rw [runOp_enable_of_en hen]
    exact State.counterInv_congr (by simp) (by simp) (fun _ => hclk) h
  | false =>
    rw [runOp_enable_of_not_en hen]
    exact State.counterInv_succ c hen (by simp) (fun d hd => by simp [hd]) (by simp) (by simpa using hclk) h

/-- `disable` run whole keeps INV1 and INV8: flag and counter go down together, and the clocks go off only when the last
channel is disabled (R165, R167). -/
theorem counterInv_disable {s : State} (c : Chan) (h : s.counterInv) :
    (runOp (.disable c) (program (.disable c)) s).counterInv := by
  cases hen : (s.chan c).en with
  | false => rw [runOp_disable_of_not_en hen]; exact h
  | true =>
    have hpos : 0 < s.enabledCount := by
      rw [State.enabledCount, List.countP_pos_iff]
      exact ⟨c, List.mem_finRange c, hen⟩
    have hn : s.numEnabled ≠ 0 := fun h0 => by
      have hcount := h.1
      rw [h0] at hcount
      exact absurd hcount.symm hpos.ne'
    rw [runOp_disable_of_en hen hn]
    refine State.counterInv_pred c hen (by simp) (fun d hd => ?other) (by simp) (fun h1 hclk => ?clocked) h
    case other => rw [State.logResp_chan, setDisabled_en, if_neg hd, regWrite_en, clocksAfterDisable_chan]; rfl
    case clocked =>
      rw [State.logResp_clkOk, setDisabled_clkOk, regWrite_clkOk, clocksAfterDisable, if_neg h1]
      exact hclk

/-- Every instruction run whole keeps INV1 and INV8 (R167). -/
theorem counterInv_of_exec {i : Instr} {s t : State} (h : exec i s = .next t) (hs : s.counterInv) : t.counterInv := by
  cases hi : countsChannels i with
  | false =>
    have heff := opEffect_of_exec h
    obtain ⟨hn, hclk⟩ := heff.counter hi
    exact State.counterInv_congr hn (heff.en hi) (fun hs => hclk.trans hs) hs
  | true =>
    rw [eq_runOp_of_exec h]
    cases i with
    | enable c => exact counterInv_enable c hs
    | disable c => exact counterInv_disable c hs
    | _ => cases hi

/-! ### The statements about instructions -/

/-- Settles O57: no effect of an engine operation makes the mask illegal. -/
theorem engineOperationsKeepMaskLegal : Obligations.EngineOperationsKeepMaskLegal := by
  intro i s t hi hs h c
  exact (opEffect_of_exec h).keeps_chan (fun x y hxy hx => hxy.maskLegal hi hx) c (hs c)

theorem countsChannels_iff (i : Instr) : countsChannels i = true ↔ ∃ d, i = .enable d ∨ i = .disable d := by
  cases i <;> simp [countsChannels]

/-- Settles O58: every effect of another instruction keeps the field. -/
theorem onlyTheirInstructionsChange : Obligations.OnlyTheirInstructionsChange := by
  intro i s t c h
  have heff := opEffect_of_exec h
  refine ⟨fun hne => ?ten, fun hne => ?slot, fun hne => ?cb, fun hne => ?counter⟩
  case ten =>
    obtain ⟨rfl, hi⟩ := (heff.eq_or Channel.ten (fun x y hxy => hxy.ten) c).resolve_left hne
    exact hi
  case slot =>
    obtain ⟨rfl, hi⟩ := (heff.eq_or Channel.slot (fun x y hxy => hxy.slot) c).resolve_left hne
    exact hi.imp id fun ha => ⟨ha, ((ha ▸ heff : OpEffect (.abort (instrChan i)) s t).slot_of_abort _).resolve_left hne⟩
  case cb =>
    obtain ⟨rfl, hi⟩ := (heff.eq_or Channel.cb (fun x y hxy => hxy.cb) c).resolve_left hne
    exact hi
  case counter =>
    rw [← countsChannels_iff]
    by_contra hi
    exact hne (heff.counter (Bool.eq_false_iff.2 hi)).1

/-! ### The line and the reset event -/

/-- Three bits masked with three status bits leave something set where one pair is set. -/
theorem masked_ne_zero (m : BitVec 3) (a b c : Bool) :
    (m &&& (BitVec.ofBool a ++ BitVec.ofBool b ++ BitVec.ofBool c) != 0) =
      ((m.getLsbD 0 && c) || (m.getLsbD 1 && b) || (m.getLsbD 2 && a)) := by
  revert m a b c
  decide

/-- Settles O19: the status word is put together bit by bit, so masking it is masking each source. -/
theorem lineIsUnmaskedStatus : Obligations.LineIsUnmaskedStatus := by
  intro ch
  have hrcz : (ch.tcrr == 0) = decide (ch.tcrr = 0) := rfl
  have htrc : (ch.tcr == 0 && ch.tcrr == 0) = decide (ch.tcr = 0 ∧ ch.tcrr = 0) := by
    rw [Bool.decide_and]; rfl
  rw [Channel.line, Channel.isr, masked_ne_zero, htrc, hrcz]

theorem resetOf_chan (P : Params) (m : Memory) (n : Nat) (t : List Input) (c : Chan) :
    (State.resetOf P m n t).chan c = .reset (Config.psrAtReset n c) := by
  fin_cases c <;> rfl

theorem Channel.reset_isr (p : BitVec 8) : (Channel.reset p).isr = 0b011 := by
  simp [Channel.isr, Channel.reset]

/-- Settles O55: the reset step replaces the block's state by `State.resetOf`, whatever it was. -/
theorem resetEventLeavesResetValues : Obligations.ResetEventLeavesResetValues := by
  intro s t hin
  refine ⟨State.resetOf s.params s.mem s.draws t, ?step, fun c => ?chan, rfl, rfl, rfl, rfl, rfl, rfl, rfl, rfl, rfl, rfl,
    rfl, rfl, rfl, rfl, rfl, rfl⟩
  case step => simp only [step, hin]; rfl
  case chan =>
    rw [resetOf_chan]
    exact ⟨rfl, rfl, rfl, rfl, rfl, rfl, rfl, rfl, rfl, rfl, rfl, rfl, rfl, Channel.reset_isr _,
      Channel.line_of_masked rfl, rfl⟩

/-! ### What each agent's step can do -/

section
variable {s t : State}

theorem runCommand_next {q : Request} (h : runCommand q s = .next t) : ∃ i, exec i s = .next t := by
  unfold runCommand at h
  split at h
  · split at h
    · cases h
    · exact ⟨_, h⟩
  · cases h

theorem acceptCommand_next {q : Request} (h : acceptCommand q s = .next t) :
    ∃ i, decode s.params q = .ok i ∧ t = { s with ctxN := .running (Frame.start i) none } := by
  unfold acceptCommand at h
  split at h
  · split at h
    · cases h
    · cases h; exact ⟨_, ‹_›, rfl⟩
  · cases h

/-- A reaction that is admitted stands behind the handler's position in the running context (R229). -/
theorem reactStep_next {q : Request} (h : reactStep q s = .next t) :
    ∃ f i, runningContext s = .running f none ∧ decode s.params q = .ok i ∧
      t = setRunningContext (.running f (some (Frame.start i))) s := by
  unfold reactStep at h
  split at h
  · cases h
  · cases h
  · cases h
  · split at h
    · split at h
      · cases h
      · cases h
      · cases h; exact ⟨_, _, ‹_›, ‹_›, rfl⟩
    · cases h

theorem hostAccess_next {k : Access} {a : Word} {b : Byte} {f : State → State} (h : hostAccess k a b f s = .next t) :
    ∃ e, t = (f s).logHost e := by
  obtain ⟨-, -, e⟩ | ⟨-, -, e⟩ | ⟨-, e⟩ := hostAccess_cases k a b f s <;> rw [e] at h <;> cases h
  exact ⟨_, rfl⟩

theorem hostLoad_next {a : Word} (h : hostLoad a s = .next t) : ∃ e, t = s.logHost e :=
  hostAccess_next (f := id) h

theorem hostStore_next {a : Word} {b : Byte} (h : hostStore a b s = .next t) :
    ∃ e, t = (s.setMem (s.mem.writeByte a.toNat b)).logHost e :=
  hostAccess_next (f := fun s => s.setMem (s.mem.writeByte a.toNat b)) h

/-- What a mover's step can make of the state: the channels' data side and the memory, nothing of the contexts,
the counter or the clocks (R202, R205). -/
structure MoverEffect (s t : State) : Prop where
  params     : t.params = s.params
  active     : t.active = s.active
  ctxN       : t.ctxN = s.ctxN
  ctxI       : t.ctxI = s.ctxI
  numEnabled : t.numEnabled = s.numEnabled
  clkOk      : t.clkOk = s.clkOk
  memWf      : s.mem.wf = true → t.mem.wf = true
  chan       : ∀ d, t.chan d = s.chan d ∨ (∃ n, t.chan d = channelMoved n (s.chan d)) ∨
    t.chan d = channelError (s.chan d)

theorem setChan_chan_cases (s : State) (c d : Chan) (f : Channel → Channel) :
    (s.setChan c (f (s.chan c))).chan d = s.chan d ∨ (s.setChan c (f (s.chan c))).chan d = f (s.chan d) := by
  rw [State.setChan_chan]
  split
  · next h => subst h; exact .inr rfl
  · exact .inl rfl

theorem moverStep_effect (c : Chan) (ready : Bool) (elem : Word) (s : State) : MoverEffect s (moverStep c ready elem s) := by
  obtain h | ⟨w, d, -, -, -, h⟩ := moverStep_cases c ready elem s <;> rw [h]
  · exact ⟨rfl, rfl, rfl, rfl, rfl, rfl, id, fun _ => .inl rfl⟩
  · obtain ⟨-, -, e⟩ | ⟨-, -, e⟩ | ⟨k, -, e⟩ := moveElement_cases c (widthBytes w) d elem s <;> rw [e]
    · exact ⟨rfl, rfl, rfl, rfl, rfl, rfl, Memory.wf_writeLE _ _ _,
        fun d => (setChan_chan_cases s c d (channelMoved _)).imp id fun hd => .inl ⟨_, hd⟩⟩
    · exact ⟨rfl, rfl, rfl, rfl, rfl, rfl, id,
        fun d => (setChan_chan_cases s c d (channelMoved _)).imp id fun hd => .inl ⟨_, hd⟩⟩
    · exact ⟨rfl, rfl, rfl, rfl, rfl, rfl, id, fun d => (setChan_chan_cases s c d channelError).imp id .inr⟩

/-- A dispatch clears the pending latch of its channel and touches no other field of a channel (R222). -/
theorem takeInterrupt_chan (c d : Chan) (s : State) :
    (takeInterrupt c s).chan d = s.chan d ∨ (takeInterrupt c s).chan d = { s.chan d with pend := false } :=
  setChan_chan_cases s c d fun x => { x with pend := false }

/-- A micro-step of a context: none if it is idle or returning, else one of an operation it has in progress (R44). -/
theorem stepContext_effect (done x : Context) (s : State) :
    ((stepContext done x s).1 = s ∧ (stepContext done x s).2 = x) ∨
      ∃ f ∈ x.frames, OpEffect f.op s (stepContext done x s).1 := by
  match x with
  | .idle | .returning => exact .inl ⟨rfl, rfl⟩
  | .running f (some g) => exact .inr ⟨g, by simp [Context.frames], stepFrame_effect g s⟩
  | .running f none =>
    refine .inr ⟨f, by simp [Context.frames], ?_⟩
    have heff := stepFrame_effect f s
    rcases hf : stepFrame f s with ⟨u, _ | f'⟩ <;> simpa [stepContext, hf] using heff

/-- The micro-step itself moves neither context: its agent does. -/
theorem stepContext_contexts (done x : Context) (s : State) :
    (stepContext done x s).1.ctxN = s.ctxN ∧ (stepContext done x s).1.ctxI = s.ctxI := by
  obtain ⟨h, -⟩ | ⟨f, -, h⟩ := stepContext_effect done x s
  · rw [h]; exact ⟨rfl, rfl⟩
  · obtain ⟨⟨-, -, hN, hI, -⟩, -⟩ := h.outside
    exact ⟨hN, hI⟩

/-- The position after a micro-step is one of the same operation (R44). -/
theorem stepFrame_op {f f' : Frame} (h : (stepFrame f s).2 = some f') : f'.op = f.op := by
  obtain ⟨u, r, e⟩ | ⟨m, u, l, -, -, -, e⟩ := stepFrame_cases f s <;> rw [e] at h <;> cases h
  rfl

/-- Where a context with an operation in progress stands after its micro-step: inside an operation, or where the operation's
end leads. -/
theorem stepContext_running (done : Context) (f : Frame) (g : Option Frame) (s : State) :
    (stepContext done (.running f g) s).2 = done ∨ ∃ f' g', (stepContext done (.running f g) s).2 = .running f' g' ∧
      ∀ x ∈ (Context.running f' g').frames, ∃ y ∈ (Context.running f g).frames, x.op = y.op := by
  cases g with
  | some g =>
    refine .inr ⟨f, (stepFrame g s).2, rfl, ?_⟩
    cases hg : (stepFrame g s).2 with
    | none => simp [Context.frames]
    | some g' => simp [Context.frames, stepFrame_op hg]
  | none =>
    rcases hf : stepFrame f s with ⟨u, _ | f'⟩
    · exact .inl (by simp [stepContext, hf])
    · have hop : f'.op = f.op := stepFrame_op (s := s) (by rw [hf])
      exact .inr ⟨f', none, by simp [stepContext, hf], by simp [Context.frames, hop]⟩

/-- The interrupt context's step: none without a handler, the return, or a micro-step (R225, R250). -/
theorem interruptStep_cases (s : State) :
    (s.active = none ∧ interruptStep s = s) ∨
    (s.ctxI = .returning ∧ interruptStep s = returnFromInterrupt s) ∨
    (s.active ≠ none ∧ s.ctxI ≠ .returning ∧ interruptStep s =
      { (stepContext .returning s.ctxI s).1 with ctxI := (stepContext .returning s.ctxI s).2 }) := by
  cases hactive : s.active with
  | none => simp [interruptStep, hactive]
  | some c => cases hI : s.ctxI <;> simp [interruptStep, hactive, hI]

end

/-- The step that an input drives, once it is off the tape (R250, R251). -/
def agentStep (x : Input) (u : State) : Host.Outcome State Fault Refusal :=
  match x with
  | .command q => runCommand q u
  | .accept q => acceptCommand q u
  | .normal => .next (normalStep u)
  | .dispatch c => .next (dispatchStep c u)
  | .interrupt => .next (interruptStep u)
  | .mover c ready elem => .next (moverStep c ready elem u)
  | .react q => reactStep q u
  | .hostRead a => hostLoad a u
  | .hostWrite a b => hostStore a b u
  | .reset => .next (resetStep u)

/-- A step of the machine is the step of the agent that the next input names. -/
theorem step_eq_agentStep {s : State} {x : Input} {rest : List Input} (h : s.inputs = x :: rest) :
    step s = agentStep x (s.popInput rest) := by
  unfold step
  rw [h]
  cases x <;> rfl

theorem step_of_no_input {s : State} (h : s.inputs = []) : step s = .next s := by
  unfold step
  rw [h]

/-! ### Every step keeps the invariants -/

/-- The channel invariants depend on the counts, the mode and the engine side only. -/
theorem Channel.inv_of_eq {x y : Channel} (hset : y.settled) (hmr : y.mr = x.mr) (hen : y.en = x.en) (hfsm : y.fsm = x.fsm)
    (hslot : y.slot = x.slot) (hx : x.inv) : y.inv := by
  unfold Channel.inv Channel.modeLegal Channel.flagMatchesFsm Channel.slotMatchesFsm at hx ⊢
  rw [hmr, hen, hfsm, hslot]
  exact ⟨hset, hx.2⟩

theorem channelMoved_inv (n : Nat) {x : Channel} (hx : x.inv) : (channelMoved n x).inv :=
  Channel.inv_of_eq (x := x) (Channel.normalise_settled _) (Channel.normalise_mr _) (Channel.normalise_en _)
    (Channel.normalise_fsm _) (Channel.normalise_slot _) hx

theorem channelError_inv {x : Channel} (hx : x.inv) : (channelError x).inv :=
  Channel.inv_of_eq hx.1 rfl rfl rfl rfl hx

theorem resetChannel_inv (p : BitVec 8) : (Channel.reset p).inv :=
  ⟨fun _ => rfl, .inl rfl, iff_of_true rfl rfl, nofun⟩

section
variable {s t : State}

theorem State.contextsMatch_congr (hactive : t.active = s.active) (hI : t.ctxI = s.ctxI) (h : s.contextsMatch) :
    t.contextsMatch := by
  unfold State.contextsMatch
  rw [hactive, hI]
  exact h

/-- An instruction, or a part of one, keeps the invariants (R46). -/
theorem OpEffect.inv {i : Instr} (h : OpEffect i s t) (hs : s.inv) : t.inv := by
  obtain ⟨hmem, hctx, hchan⟩ := hs
  obtain ⟨⟨-, hactive, -, hI, -⟩, hmem'⟩ := h.outside
  exact ⟨hmem' ▸ hmem, State.contextsMatch_congr hactive hI hctx,
    fun c => h.keeps_chan (fun _ _ hxy => hxy.inv) c (hchan c)⟩

theorem OpEffect.params {i : Instr} (h : OpEffect i s t) : t.params = s.params := by
  obtain ⟨⟨hparams, -⟩, -⟩ := h.outside
  exact hparams

theorem OpEffect.active {i : Instr} (h : OpEffect i s t) : t.active = s.active := by
  obtain ⟨⟨-, hactive, -⟩, -⟩ := h.outside
  exact hactive

theorem MoverEffect.inv (h : MoverEffect s t) (hs : s.inv) : t.inv := by
  obtain ⟨hmem, hctx, hchan⟩ := hs
  refine ⟨h.memWf hmem, State.contextsMatch_congr h.active h.ctxI hctx, fun d => ?_⟩
  obtain e | ⟨n, e⟩ | e := h.chan d <;> rw [e]
  · exact hchan d
  · exact channelMoved_inv n (hchan d)
  · exact channelError_inv (hchan d)

theorem stepContext_keeps (done x : Context) (hs : s.inv) : (stepContext done x s).1.inv ∧
    (stepContext done x s).1.params = s.params ∧ (stepContext done x s).1.active = s.active := by
  obtain ⟨h, -⟩ | ⟨f, -, h⟩ := stepContext_effect done x s
  · rw [h]; exact ⟨hs, rfl, rfl⟩
  · exact ⟨h.inv hs, h.params, h.active⟩

theorem normalStep_inv (hs : s.inv) : (normalStep s).inv ∧ (normalStep s).params = s.params := by
  unfold normalStep
  split
  · exact ⟨hs, rfl⟩
  · obtain ⟨hinv, hparams, -⟩ := stepContext_keeps .idle s.ctxN hs
    exact ⟨hinv, hparams⟩

theorem takeInterrupt_inv (c : Chan) (hs : s.inv) : (takeInterrupt c s).inv := by
  obtain ⟨hmem, -, hchan⟩ := hs
  refine ⟨hmem, iff_of_false nofun nofun, fun d => ?_⟩
  obtain e | e := takeInterrupt_chan c d s <;> rw [e] <;> exact hchan d

/-- The interrupt context is left idle exactly by the return, which also ends the handler (R225). -/
theorem interruptStep_inv (hs : s.inv) : (interruptStep s).inv ∧ (interruptStep s).params = s.params := by
  obtain ⟨hmem, hctx, hchan⟩ := hs
  obtain ⟨-, e⟩ | ⟨-, e⟩ | ⟨hactive, hI, e⟩ := interruptStep_cases s <;> rw [e]
  · exact ⟨⟨hmem, hctx, hchan⟩, rfl⟩
  · exact ⟨⟨hmem, iff_of_true rfl rfl, hchan⟩, rfl⟩
  · obtain ⟨⟨hmem', -, hchan'⟩, hparams, hactive'⟩ := stepContext_keeps .returning s.ctxI ⟨hmem, hctx, hchan⟩
    refine ⟨⟨hmem', iff_of_false (fun h => hactive (hactive'.symm.trans h)) ?_, hchan'⟩, hparams⟩
    cases hx : s.ctxI with
    | idle => exact absurd (hctx.2 hx) hactive
    | returning => exact absurd hx hI
    | running f g =>
      obtain e | ⟨f', g', e, -⟩ := stepContext_running .returning f g s <;> exact fun h => nomatch e.symm.trans h

theorem setRunningContext_inv (f : Frame) (g : Option Frame) (hs : s.inv) :
    (setRunningContext (.running f g) s).inv ∧ (setRunningContext (.running f g) s).params = s.params := by
  obtain ⟨hmem, hctx, hchan⟩ := hs
  unfold setRunningContext
  split
  next hsome => exact ⟨⟨hmem, iff_of_false (Option.isSome_iff_ne_none.1 hsome) nofun, hchan⟩, rfl⟩
  next => exact ⟨⟨hmem, hctx, hchan⟩, rfl⟩

/-- The step of every agent keeps memory canonical, the contexts matching and INV3 to INV6 (R46). -/
theorem agentStep_inv {x : Input} (hs : s.inv) (h : agentStep x s = .next t) : t.inv ∧ t.params = s.params := by
  cases x with
  | command q =>
    obtain ⟨i, hi⟩ := runCommand_next h
    exact ⟨(opEffect_of_exec hi).inv hs, (opEffect_of_exec hi).params⟩
  | accept q =>
    obtain ⟨i, -, rfl⟩ := acceptCommand_next h
    exact ⟨hs, rfl⟩
  | normal => cases h; exact normalStep_inv hs
  | dispatch c =>
    cases h
    unfold dispatchStep
    split
    · exact ⟨takeInterrupt_inv c hs, rfl⟩
    · exact ⟨hs, rfl⟩
  | interrupt => cases h; exact interruptStep_inv hs
  | mover c ready elem =>
    cases h
    have heff := moverStep_effect c ready elem s
    exact ⟨heff.inv hs, heff.params⟩
  | react q =>
    obtain ⟨f, i, -, -, rfl⟩ := reactStep_next h
    exact setRunningContext_inv f _ hs
  | hostRead a =>
    obtain ⟨e, rfl⟩ := hostLoad_next h
    exact ⟨hs, rfl⟩
  | hostWrite a b =>
    obtain ⟨e, rfl⟩ := hostStore_next h
    obtain ⟨hmem, hctx, hchan⟩ := hs
    exact ⟨⟨Memory.wf_writeByte hmem a.toNat b, hctx, hchan⟩, rfl⟩
  | reset =>
    cases h
    obtain ⟨hmem, -, -⟩ := hs
    refine ⟨⟨hmem, iff_of_true rfl rfl, fun c => ?_⟩, rfl⟩
    rw [resetStep, resetOf_chan]
    exact resetChannel_inv _

end

/-- Settles O53, agent by agent. -/
theorem stepKeepsInvariant : Obligations.StepKeepsInvariant := by
  intro s t hs h
  cases hin : s.inputs with
  | nil => rw [step_of_no_input hin] at h; cases h; exact ⟨hs, rfl⟩
  | cons x rest =>
    rw [step_eq_agentStep hin] at h
    exact agentStep_inv (s := s.popInput rest) hs h

/-! ### Every step keeps the counter -/

/-- No `enable` and no `disable` is in progress in the context (R167). -/
def Context.countFree (x : Context) : Prop := ∀ f ∈ x.frames, countsChannels f.op = false

theorem noCountInProgress_iff (s : State) : s.noCountInProgress = true ↔ s.ctxN.countFree ∧ s.ctxI.countFree := by
  simp [State.noCountInProgress, State.frames, Context.countFree]

theorem countFree_idle : Context.idle.countFree := nofun
theorem countFree_returning : Context.returning.countFree := nofun

theorem countFree_start {i : Instr} (h : countsChannels i = false) : (Context.running (Frame.start i) none).countFree := by
  simpa [Context.countFree, Context.frames, Frame.start] using h

/-- The operation that an input starts for other agents to interleave with, if the premise of R167 holds of the input. -/
theorem countsChannels_of_opensCount {P : Params} {q : Request} {i : Instr} (hdec : decode P q = .ok i)
    (h : (Input.accept q).opensCount P = false) : countsChannels i = false := by
  simpa [Input.opensCount, hdec] using h

section
variable {s t : State}

/-- A part of an operation that is no `enable` and no `disable` keeps INV1 and INV8. -/
theorem OpEffect.counterInv {i : Instr} (h : OpEffect i s t) (hi : countsChannels i = false) (hs : s.counterInv) :
    t.counterInv := by
  obtain ⟨hn, hclk⟩ := h.counter hi
  exact State.counterInv_congr hn (h.en hi) (fun hs => hclk.trans hs) hs

theorem MoverEffect.counterInv (h : MoverEffect s t) (hs : s.counterInv) : t.counterInv := by
  refine State.counterInv_congr h.numEnabled (fun d => ?_) (fun hs => h.clkOk.trans hs) hs
  obtain e | ⟨n, e⟩ | e := h.chan d <;> rw [e]
  · exact Channel.normalise_en _
  · rfl

theorem takeInterrupt_counterInv (c : Chan) (hs : s.counterInv) : (takeInterrupt c s).counterInv := by
  refine State.counterInv_congr (s := s) rfl (fun d => ?_) (fun hclk => hclk) hs
  obtain e | e := takeInterrupt_chan c d s <;> rw [e]

theorem resetOf_counterInv (P : Params) (m : Memory) (n : Nat) (l : List Input) : (State.resetOf P m n l).counterInv := by
  have hcount : (State.resetOf P m n l).enabledCount = 0 := by
    simp [State.enabledCount, resetOf_chan, Channel.reset]
  exact ⟨hcount.symm, fun h => absurd rfl h⟩

theorem stepContext_counterInv (done x : Context) (hx : x.countFree) (hs : s.counterInv) :
    (stepContext done x s).1.counterInv := by
  obtain ⟨h, -⟩ | ⟨f, hf, h⟩ := stepContext_effect done x s
  · rw [h]; exact hs
  · exact h.counterInv (hx f hf) hs

theorem stepContext_countFree {done x : Context} (s : State) (hdone : done.countFree) (hx : x.countFree) :
    (stepContext done x s).2.countFree := by
  cases x with
  | idle | returning => exact hx
  | running f g =>
    obtain e | ⟨f', g', e, hop⟩ := stepContext_running done f g s <;> rw [e]
    · exact hdone
    · intro y hy
      obtain ⟨z, hz, hyz⟩ := hop y hy
      rw [hyz]
      exact hx z hz

theorem normalStep_counterInv (hs : s.counterInv) (hN : s.ctxN.countFree) (hI : s.ctxI.countFree) :
    (normalStep s).counterInv ∧ (normalStep s).ctxN.countFree ∧ (normalStep s).ctxI.countFree := by
  unfold normalStep
  split
  · exact ⟨hs, hN, hI⟩
  · have hI' : (stepContext .idle s.ctxN s).1.ctxI = s.ctxI := (stepContext_contexts .idle s.ctxN s).2
    exact ⟨stepContext_counterInv .idle s.ctxN hN hs, stepContext_countFree s countFree_idle hN, hI' ▸ hI⟩

theorem interruptStep_counterInv (hs : s.counterInv) (hN : s.ctxN.countFree) (hI : s.ctxI.countFree) :
    (interruptStep s).counterInv ∧ (interruptStep s).ctxN.countFree ∧ (interruptStep s).ctxI.countFree := by
  obtain ⟨-, e⟩ | ⟨-, e⟩ | ⟨-, -, e⟩ := interruptStep_cases s <;> rw [e]
  · exact ⟨hs, hN, hI⟩
  · exact ⟨hs, hN, countFree_idle⟩
  · have hN' : (stepContext .returning s.ctxI s).1.ctxN = s.ctxN := (stepContext_contexts .returning s.ctxI s).1
    exact ⟨stepContext_counterInv .returning s.ctxI hI hs, hN' ▸ hN, stepContext_countFree s countFree_returning hI⟩

/-- A reaction joins the handler's operation in the context that is running. -/
theorem setRunningContext_countFree {f : Frame} {g : Frame} (hrun : runningContext s = .running f none)
    (hN : s.ctxN.countFree) (hI : s.ctxI.countFree) (hg : countsChannels g.op = false) :
    (setRunningContext (.running f (some g)) s).ctxN.countFree ∧
      (setRunningContext (.running f (some g)) s).ctxI.countFree := by
  have hjoin : (Context.running f none).countFree → (Context.running f (some g)).countFree := by
    simp [Context.countFree, Context.frames, hg]
  unfold runningContext at hrun
  unfold setRunningContext
  cases hactive : s.active.isSome with
  | true => rw [hactive, if_pos rfl] at hrun; exact ⟨hN, hjoin (hrun ▸ hI)⟩
  | false => rw [hactive, if_neg Bool.false_ne_true] at hrun; exact ⟨hjoin (hrun ▸ hN), hI⟩

/-- With no `enable` or `disable` interleaved, the step of every agent keeps INV1 and INV8, and none becomes
interleaved (R167). -/
theorem agentStep_counterInv {x : Input} (hs : s.counterInv) (hN : s.ctxN.countFree) (hI : s.ctxI.countFree)
    (hx : x.opensCount s.params = false) (h : agentStep x s = .next t) :
    t.counterInv ∧ t.ctxN.countFree ∧ t.ctxI.countFree := by
  cases x with
  | command q =>
    obtain ⟨i, hi⟩ := runCommand_next h
    obtain ⟨⟨-, -, hN', hI', -⟩, -⟩ := (opEffect_of_exec hi).outside
    exact ⟨counterInv_of_exec hi hs, hN' ▸ hN, hI' ▸ hI⟩
  | accept q =>
    obtain ⟨i, hdec, rfl⟩ := acceptCommand_next h
    exact ⟨hs, countFree_start (countsChannels_of_opensCount hdec hx), hI⟩
  | normal => cases h; exact normalStep_counterInv hs hN hI
  | dispatch c =>
    cases h
    unfold dispatchStep
    split
    · exact ⟨takeInterrupt_counterInv c hs, hN, countFree_start rfl⟩
    · exact ⟨hs, hN, hI⟩
  | interrupt => cases h; exact interruptStep_counterInv hs hN hI
  | mover c ready elem =>
    cases h
    have heff := moverStep_effect c ready elem s
    exact ⟨heff.counterInv hs, heff.ctxN ▸ hN, heff.ctxI ▸ hI⟩
  | react q =>
    obtain ⟨f, i, hrun, hdec, rfl⟩ := reactStep_next h
    refine ⟨?_, setRunningContext_countFree hrun hN hI (countsChannels_of_opensCount hdec hx)⟩
    unfold setRunningContext
    split <;> exact hs
  | hostRead a =>
    obtain ⟨e, rfl⟩ := hostLoad_next h
    exact ⟨hs, hN, hI⟩
  | hostWrite a b =>
    obtain ⟨e, rfl⟩ := hostStore_next h
    exact ⟨hs, hN, hI⟩
  | reset => cases h; exact ⟨resetOf_counterInv _ _ _ _, countFree_idle, countFree_idle⟩

end

/-- Settles O24, agent by agent. -/
theorem stepKeepsCounterInvariant : Obligations.StepKeepsCounterInvariant := by
  intro s t hs hfree hx h
  rw [noCountInProgress_iff] at hfree ⊢
  obtain ⟨hN, hI⟩ := hfree
  cases hin : s.inputs with
  | nil => rw [step_of_no_input hin] at h; cases h; exact ⟨hs, hN, hI⟩
  | cons x rest =>
    rw [step_eq_agentStep hin] at h
    exact agentStep_counterInv (s := s.popInput rest) hs hN hI (hx x (by rw [hin]; rfl)) h

end Sys2Proof.Machine
end

section
/-! PROOF of the statements of 20_memory.md: what the memory port admits (O45), that instructions stay on their channel (O56),
the host's accesses (O59) and how long a buffer is owned (O60). A byte is owned through an occupied slot or through a position
between the guards of a `prepare` and the filling of its slot; O60 follows one channel through both (`owned_of_running`). -/

namespace Sys2Proof.Machine

/-! ### The memory port -/

/-- A byte is admitted outside the register space, in a region allocated for that kind of access (R66). -/
theorem byteAdmitted_iff (P : Params) (k : Access) (a : Nat) : byteAdmitted P k a = true ↔
    inRegSpace P a = false ∧ ∃ g ∈ P.regions, g.base ≤ a ∧ a < g.base + g.size ∧
      (k = .read → g.read = true) ∧ (k = .write → g.write = true) := by
  cases k <;> simp [byteAdmitted, and_assoc]

/-- One byte that is not admitted refuses the request (R66). -/
theorem not_admits_of_byte {P : Params} {k : Access} {a : Word} {n i : Nat} (hi : i < n)
    (h : byteAdmitted P k (a.toNat + i) ≠ true) : admits P k a n = false :=
  Bool.eq_false_iff.2 fun hadm => h (((admits_iff P k a n).1 hadm).2 i hi)

/-- Settles O45, byte by byte. -/
theorem memoryPortRefuses : Obligations.MemoryPortRefuses := by
  intro P k a w
  refine ⟨fun hmis => ?misaligned, fun i hi hreg => ?regSpace, fun i hi hout => ?outside,
    fun g hg halign hreg hlo hhi hread hwrite => ?admitted⟩
  case misaligned => exact Bool.eq_false_iff.2 fun hadm => hmis ((admits_iff P k a _).1 hadm).1
  case regSpace =>
    refine not_admits_of_byte hi fun hbyte => ?_
    obtain ⟨hfree, -⟩ := (byteAdmitted_iff P k _).1 hbyte
    exact absurd (hreg.symm.trans hfree) nofun
  case outside =>
    refine not_admits_of_byte hi fun hbyte => ?_
    obtain ⟨-, g, hg, hlo, hhi, hread, hwrite⟩ := (byteAdmitted_iff P k _).1 hbyte
    obtain hbelow | habove | ⟨hk, hno⟩ | ⟨hk, hno⟩ := hout g hg
    · omega
    · omega
    · exact absurd ((hread hk).symm.trans hno) nofun
    · exact absurd ((hwrite hk).symm.trans hno) nofun
  case admitted =>
    refine (admits_iff P k a _).2 ⟨halign, fun i hi => (byteAdmitted_iff P k _).2 ⟨hreg i hi, g, hg, ?_⟩⟩
    exact ⟨by omega, by omega, hread, hwrite⟩

/-! ### Instructions -/

/-- Settles O56: an instruction run whole is a chain of effects on its own channel. -/
theorem instructionsActOnTheirChannel : Obligations.InstructionsActOnTheirChannel := by
  intro i s t h
  have heff := opEffect_of_exec h
  exact ⟨heff.outside.1, fun d hd => heff.chan_other hd⟩

/-! ### Owned bytes -/

/-- Whether the slot of channel `c` holds the byte at `a` (R39, R72). -/
def State.slotHolds (s : State) (c : Chan) (a : Word) : Bool := ((s.chan c).slot.map fun b => Buffer.holds b a).getD false

theorem State.slotHolds_iff (s : State) (c : Chan) (a : Word) :
    s.slotHolds c a = true ↔ ∃ b, (s.chan c).slot = some b ∧ Buffer.holds b a = true := by
  unfold State.slotHolds
  cases (s.chan c).slot <;> simp

theorem State.slotHolds_of_slot_none {s : State} {c : Chan} (a : Word) (h : (s.chan c).slot = none) :
    s.slotHolds c a = false := by
  rw [State.slotHolds, h]; rfl

/-- With both contexts idle the slots alone decide (R72). -/
theorem owned_iff_of_idle {s : State} (a : Word) (hN : s.ctxN = .idle) (hI : s.ctxI = .idle) :
    owned s a = true ↔ ∃ c, s.slotHolds c a = true := by
  simp [owned_iff, State.slotHolds_iff, State.frames, Context.frames, hN, hI]

/-- A buffer that the position of the normal context has taken is owned. -/
theorem owned_of_taken {s : State} {f : Frame} {g : Option Frame} {b : Buffer} {a : Word} (hN : s.ctxN = .running f g)
    (hf : takenBuffer f = some b) (ha : Buffer.holds b a = true) : owned s a = true :=
  (owned_iff s a).2 (.inr ⟨f, by cases g <;> simp [State.frames, Context.frames, hN], b, hf, ha⟩)

/-- A buffer in a slot is owned. -/
theorem owned_of_slot {s : State} {c : Chan} {b : Buffer} {a : Word} (hslot : (s.chan c).slot = some b)
    (ha : Buffer.holds b a = true) : owned s a = true :=
  (owned_iff s a).2 (.inl ⟨c, b, hslot, ha⟩)

/-- No slot but that of channel `c` holds the byte at `a`. -/
def State.onlySlotOf (s : State) (c : Chan) (a : Word) : Prop :=
  ∀ d x, d ≠ c → (s.chan d).slot = some x → Buffer.holds x a = false

theorem State.onlySlotOf_congr {s t : State} {c : Chan} {a : Word} (h : ∀ d, d ≠ c → (t.chan d).slot = (s.chan d).slot)
    (hs : s.onlySlotOf c a) : t.onlySlotOf c a := fun d x hd hx => hs d x hd (h d hd ▸ hx)

/-- A byte that no other slot holds is owned through the slot of `c` or through an operation in progress. -/
theorem owned_iff_of_onlySlotOf {s : State} {c : Chan} {a : Word} (h : s.onlySlotOf c a) : owned s a = true ↔
    s.slotHolds c a = true ∨ ∃ f ∈ s.frames, ∃ b, takenBuffer f = some b ∧ Buffer.holds b a = true := by
  rw [owned_iff, State.slotHolds_iff]
  refine or_congr ⟨fun ⟨d, b, hslot, hb⟩ => ?_, fun ⟨b, hb⟩ => ⟨c, b, hb⟩⟩ Iff.rfl
  by_cases hd : d = c
  · exact ⟨b, hd ▸ hslot, hb⟩
  · exact absurd (hb.symm.trans (h d b hd hslot)) nofun

/-- With both contexts idle, such a byte is owned exactly if the slot of `c` holds it. -/
theorem owned_of_idle {s : State} {c : Chan} {a : Word} (h : s.onlySlotOf c a) (hN : s.ctxN = .idle) (hI : s.ctxI = .idle) :
    owned s a = s.slotHolds c a := by
  rw [Bool.eq_iff_iff, owned_iff_of_onlySlotOf h]
  simp [State.frames, Context.frames, hN, hI]

/-! ### The host's accesses -/

/-- With both contexts idle the host's access to an allocated byte is made, with the ownership of that byte as its race flag
(R72, R276). -/
theorem hostAccess_of_idle {s : State} {a : Word} (k : Access) (b : Byte) (f : State → State) (hactive : s.active = none)
    (hN : s.ctxN = .idle) (halloc : allocated s.params a.toNat = true) :
    hostAccess k a b f s = .next ((f s).logHost ⟨k, a, b, owned s a⟩) := by
  have hruns : hostRuns s = true := by simp [hostRuns, runningContext, hactive, hN]
  rw [hostAccess, if_pos hruns, if_pos halloc]

theorem allocated_iff (P : Params) (a : Nat) : allocated P a = true ↔
    inRegSpace P a = false ∧ ∃ g ∈ P.regions, g.base ≤ a ∧ a < g.base + g.size := by
  simp [allocated]

/-- Settles O59: the flag is `owned`, which with both contexts idle the slots decide. -/
theorem hostAccessIsOrderedAndFlagged : Obligations.HostAccessIsOrderedAndFlagged := by
  intro s a b t r hmem hactive hN hI hreg hregion hrace
  have halloc : allocated s.params a.toNat = true := (allocated_iff _ _).2 ⟨hreg, hregion⟩
  have howned : owned s a = r := by
    obtain ⟨rfl, c, x, hslot, hx⟩ | ⟨rfl, hfree⟩ := hrace
    · exact owned_of_slot hslot (decide_eq_true hx)
    · refine Bool.eq_false_iff.2 fun h => ?_
      obtain ⟨c, hc⟩ := (owned_iff_of_idle a hN hI).1 h
      obtain ⟨x, hslot, hx⟩ := (s.slotHolds_iff c a).1 hc
      exact absurd (of_decide_eq_true hx) (Nat.not_lt.2 (hfree c x hslot))
  have haccess (k : Access) (v : Byte) (f : State → State) :
      hostAccess k a v f (s.popInput t) = .next ((f (s.popInput t)).logHost ⟨k, a, v, r⟩) :=
    howned ▸ hostAccess_of_idle (s := s.popInput t) k v f hactive hN halloc
  constructor
  · intro hin
    refine ⟨s.mem.writeByte a.toNat b, ?step, ?same, fun x hx => ?other⟩
    case step =>
      rw [step_eq_agentStep hin]
      exact haccess .write b fun u => u.setMem (u.mem.writeByte a.toNat b)
    case same => rw [Memory.readByte_writeByte hmem, if_pos rfl]
    case other => rw [Memory.readByte_writeByte hmem, if_neg hx]
  · intro hin
    rw [step_eq_agentStep hin]
    exact haccess .read (s.mem.readByte a.toNat) id

/-! ### An operation that fills a slot -/

/-- With the normal context inside an operation, the input `normal` makes its next micro-step (R250). -/
theorem step_normal_of_running {s : State} {f : Frame} {t : List Input} (hin : s.inputs = .normal :: t)
    (hactive : s.active = none) (hN : s.ctxN = .running f none) :
    step s = .next ((stepFrame f s).1.awaiting (((stepFrame f s).2.map (Context.running · none)).getD .idle) t) := by
  rw [← step_normal_running, ← hN, ← hin, State.awaiting_self hactive]

theorem fillPending_iff (k : Nat) : fillPending k = true ↔ 1 ≤ k ∧ k ≤ 6 := by
  simp [fillPending]

/-- Behind the guards, `prepare_transfer` makes five register writes before it fills the slot (R180). -/
theorem progPrepare_drop_write (c : Chan) (p : BitVec 8) (b : Buffer) (r : Word) (ms : List Micro) {k : Nat}
    (h1 : 1 ≤ k) (h5 : k ≤ 5) :
    ∃ m m' ms', (progPrepare c p b r ++ ms).drop k = m :: m' :: ms' ∧
      ∀ l s, ∃ reg v, m l s = (regWrite c reg v s, .go l) := by
  match k with
  | 1 | 2 | 3 | 4 | 5 => exact ⟨_, _, _, rfl, fun _ _ => ⟨_, _, rfl⟩⟩
  | k + 6 => omega

section
variable {c : Chan} {p : BitVec 8} {b : Buffer} {r : Word} {i : Instr} (hi : i = .prepare c p b r ∨ i = .xfer c p b r)
include hi

/-- `prepare` and `xfer` begin with the micro-steps of `prepare_transfer` (R180, R183). -/
theorem program_of_fills : ∃ ms, program i = progPrepare c p b r ++ ms := by
  obtain rfl | rfl := hi
  · exact ⟨[], (List.append_nil _).symm⟩
  · exact ⟨progStart c, rfl⟩

/-- The position has taken the buffer between the guards and the filling of the slot (R72, R180). -/
theorem takenBuffer_of_fills (k : Nat) (l : Locals) :
    takenBuffer ⟨i, k, l⟩ = if fillPending k then some b else none := by
  obtain rfl | rfl := hi <;> rfl

/-- While such an operation stands in the normal context, a byte of its buffer that no other slot holds is owned through the
slot of `c` or, between the guards and the filling, through the position. -/
theorem owned_of_running {s : State} {a : Word} {k : Nat} {l : Locals} (h : s.onlySlotOf c a)
    (ha : Buffer.holds b a = true) (hN : s.ctxN = .running ⟨i, k, l⟩ none) (hI : s.ctxI = .idle) :
    owned s a = (s.slotHolds c a || fillPending k) := by
  rw [Bool.eq_iff_iff, owned_iff_of_onlySlotOf h]
  simp [State.frames, Context.frames, hN, hI, takenBuffer_of_fills hi, ha]

/-- The guards pass on a channel with a width and an empty slot (R180). -/
theorem stepFrame_guard_passes {s : State} (hw : (s.chan c).width ≠ none) (hslot : (s.chan c).slot = none) (l : Locals) :
    ∃ l', (stepFrame ⟨i, 0, l⟩ s).2 = some ⟨i, 1, l'⟩ := by
  obtain ⟨ms, hprog⟩ := program_of_fills hi
  obtain ⟨w, hw⟩ := Option.ne_none_iff_exists'.1 hw
  have hguard : prepareGuard c b r l s = (s, .go { l with width := w, count := programmedCount w b.blen r }) := by
    simp [prepareGuard, hw, hslot]
  rw [stepFrame_of_go (by rw [hprog]; rfl) hguard]
  exact ⟨_, rfl⟩

/-- The first guard faults on a channel without a width (R180, R242). -/
theorem stepFrame_guard_faults {s : State} (hw : (s.chan c).width = none) (l : Locals) :
    stepFrame ⟨i, 0, l⟩ s = (s.logResp ⟨i, respFault .notInitialized⟩, none) := by
  obtain ⟨ms, hprog⟩ := program_of_fills hi
  have hguard : prepareGuard c b r l s = (s, .done (some (respFault .notInitialized))) := by
    simp [prepareGuard, hw]
  rw [stepFrame_of_done (by rw [hprog]; rfl) hguard]
  rfl

/-- Each of the five writes leads to the next position (R44). -/
theorem stepFrame_write {k : Nat} (h1 : 1 ≤ k) (h5 : k ≤ 5) (l : Locals) (s : State) :
    (stepFrame ⟨i, k, l⟩ s).2 = some ⟨i, k + 1, l⟩ := by
  obtain ⟨ms, hprog⟩ := program_of_fills hi
  obtain ⟨m, m', ms', hdrop, hm⟩ := progPrepare_drop_write c p b r ms h1 h5
  obtain ⟨reg, v, hgo⟩ := hm l s
  rw [stepFrame_of_go (by rw [hprog, hdrop]) hgo, if_neg (List.cons_ne_nil _ _)]

/-- The seventh micro-step fills the slot, whether or not the operation goes on (R180, R183). -/
theorem stepFrame_fill (l : Locals) (s : State) : ((stepFrame ⟨i, 6, l⟩ s).1.chan c).slot = some b := by
  obtain ⟨ms, hprog⟩ := program_of_fills hi
  have hfill : act (fillSlot c b) l s = (fillSlot c b s, .go l) := rfl
  have hslot : ((fillSlot c b s).chan c).slot = some b := by simp [fillSlot]
  rw [stepFrame_of_go (by rw [hprog]; rfl) hfill]
  split <;> exact hslot

end

/-- `abort` empties the slot, whatever it held and whether or not the block is clocked (R185, R291). -/
theorem runOp_abort_slot (c : Chan) (s : State) : ((runOp (.abort c) (program (.abort c)) s).chan c).slot = none := by
  simp [runOp, program, progAbort, act, releaseSlot, runMicros, complete]

/-! ### From the prepare to the abort -/

/-- Settles O60: the operation is followed from its guards over the five writes to the filling of the slot, and then `abort`
empties the slot beside a position that holds nothing. -/
theorem ownershipRunsFromPrepareToAbort : Obligations.OwnershipRunsFromPrepareToAbort := by
  intro s c p b r i t a hi hin hactive hI ha hothers
  have honly : s.onlySlotOf c a := hothers
  refine ⟨fun hN hslot => ⟨?before, fun hw => ?passes, fun hw => ?faults⟩, fun k l hN h1 h6 => ⟨?during, ?next⟩,
    fun k l hN h7 => ?after⟩
  case before => rw [owned_of_running hi honly ha hN hI, State.slotHolds_of_slot_none a hslot]; rfl
  case passes =>
    obtain ⟨l', hf⟩ := stepFrame_guard_passes hi hw hslot {}
    exact ⟨_, step_normal_of_running hin hactive hN, owned_of_taken (by rw [hf]; rfl) (takenBuffer_of_fills hi 1 l') ha⟩
  case faults =>
    have hstep := step_normal_of_running hin hactive hN
    rw [stepFrame_guard_faults hi hw] at hstep
    have honly' : ((s.logResp ⟨i, respFault .notInitialized⟩).awaiting .idle t).onlySlotOf c a := honly
    exact ⟨_, hstep, (owned_of_idle honly' rfl hI).trans (State.slotHolds_of_slot_none a hslot)⟩
  case during => rw [owned_of_running hi honly ha hN hI, (fillPending_iff k).2 ⟨h1, h6⟩, Bool.or_true]
  case next =>
    refine ⟨_, step_normal_of_running hin hactive hN, ?_⟩
    obtain h5 | rfl : k ≤ 5 ∨ k = 6 := by omega
    · have hpend : fillPending (k + 1) = true := (fillPending_iff _).2 ⟨by omega, by omega⟩
      refine ⟨owned_of_taken (by rw [stepFrame_write hi h1 h5]; rfl) ?_ ha, by omega⟩
      rw [takenBuffer_of_fills hi, if_pos hpend]
    · exact ⟨owned_of_slot (stepFrame_fill hi l s) ha, fun _ => stepFrame_fill hi l s⟩
  case after =>
    have hpend : fillPending k = false := Bool.eq_false_iff.2 fun h => by have := (fillPending_iff k).1 h; omega
    have habort : exec (.abort c) s = .next (runOp (.abort c) (program (.abort c)) s) := exec_of_wellFormed rfl
    have heff := opEffect_of_exec habort
    obtain ⟨⟨-, -, hN', hI', -⟩, -⟩ := heff.outside
    refine ⟨_, habort, ?held, ?released⟩
    case held => rw [owned_of_running hi honly ha hN hI, hpend, Bool.or_false]; rfl
    case released =>
      have honly' := State.onlySlotOf_congr (fun d hd => congrArg Channel.slot (heff.chan_other hd)) honly
      rw [owned_of_running hi honly' ha (hN'.trans hN) (hI'.trans hI), hpend,
        State.slotHolds_of_slot_none a (runOp_abort_slot c s)]
      rfl

end Sys2Proof.Machine
end

section
/-! PROOF of the statements of 30_encoding.md: decoding undoes encoding (O1), a decoded request is an encoding (O2), the rows of
R105 are refused (O4), the example words (O3), the RESP word (O5).

Each format has one fact per direction. REG: under legal parameters the address of a register decodes to its channel and
register, because every offset is below the stride and the block does not wrap (`decodeRegAddr_regAddr`), and an address that
decodes is the address of what it decodes to (`regAddr_of_decodeRegAddr`). CMD: taking the word apart and putting it together
undo each other (`cmdFields_cmdWord`, `cmdWord_cmdFields`), so what is left is a statement about fields, opcode by opcode. -/

namespace Sys2Proof.Machine

/-! ### Width codes, register offsets and channel fields -/

theorem widthOfCode_widthCode (w : Width) : widthOfCode (widthCode w) = some w := by
  cases w <;> rfl

theorem widthCode_of_widthOfCode {b : BitVec 2} {w : Width} (h : widthOfCode b = some w) : widthCode w = b := by
  revert b
  cases w <;> decide

theorem chanOfField_chanField (c : Chan) : chanOfField (chanField c) = c := by
  revert c; decide

theorem chanField_chanOfField (b : BitVec 4) : chanField (chanOfField b) = b := by
  revert b; decide

theorem regOffset_lt (r : Reg) : regOffset r < 0x30 := by
  cases r <;> decide

theorem regOffset_mod_four (r : Reg) : regOffset r % 4 = 0 := by
  cases r <;> rfl

/-- The register at an offset is the one whose offset it is: the offsets of R91 are pairwise distinct. -/
theorem regOfOffset_eq_some_iff {off : Nat} {r : Reg} : regOfOffset off = some r ↔ off = regOffset r := by
  constructor
  · intro h
    have hoff := List.find?_some h
    exact (beq_iff_eq.1 hoff).symm
  · rintro rfl
    cases r <;> rfl

/-- No register stands at `0x30` or above, nor at an offset that is no multiple of 4 (R91, R105). -/
theorem regOfOffset_eq_none {off : Nat} (h : 0x30 ≤ off ∨ off % 4 ≠ 0) : regOfOffset off = none := by
  refine Option.eq_none_iff_forall_ne_some.2 fun r hr => ?_
  have hlt := regOffset_lt r
  have hmod := regOffset_mod_four r
  rw [← regOfOffset_eq_some_iff.1 hr] at hlt hmod
  omega

/-! ### Register addresses -/

/-- What R7 says of the register block: it is aligned, holds every register of a bank, and does not wrap. -/
theorem layout_of_wf {P : Params} (hP : P.wf = true) : P.dmaBase.toNat % 4 = 0 ∧ P.stride % 4 = 0 ∧ 0x30 ≤ P.stride ∧
    P.dmaBase.toNat + 16 * P.stride ≤ 2 ^ 32 := by
  simp only [Params.wf, Bool.and_eq_true, beq_iff_eq, decide_eq_true_eq] at hP
  obtain ⟨⟨⟨⟨⟨hbase, hstride⟩, hbank⟩, hwrap⟩, -⟩, -⟩ := hP
  exact ⟨hbase, hstride, hbank, hwrap⟩

theorem inRegSpace_iff (P : Params) (a : Nat) :
    inRegSpace P a = true ↔ P.dmaBase.toNat ≤ a ∧ a < P.dmaBase.toNat + 16 * P.stride := by
  simp [inRegSpace]

section
variable {P : Params} (hP : P.wf = true) (c : Chan) (r : Reg)
include hP

/-- A register lies within the bank of its channel. -/
theorem bankOffset_lt : c.val * P.stride + regOffset r < 16 * P.stride := by
  obtain ⟨-, -, hbank, -⟩ := layout_of_wf hP
  calc c.val * P.stride + regOffset r < c.val * P.stride + P.stride := by have := regOffset_lt r; omega
    _ = (c.val + 1) * P.stride := (Nat.succ_mul _ _).symm
    _ ≤ 16 * P.stride := Nat.mul_le_mul_right _ c.isLt

/-- The address of a register does not wrap (R7, R62). -/
theorem regAddr_toNat : (regAddr P c r).toNat = P.dmaBase.toNat + (c.val * P.stride + regOffset r) := by
  obtain ⟨-, -, -, hwrap⟩ := layout_of_wf hP
  have hlt := bankOffset_lt hP c r
  rw [regAddr, BitVec.toNat_ofNat, Nat.add_assoc, Nat.mod_eq_of_lt (by omega)]

/-- R62 read backwards: division by the stride gives the channel, the remainder the register. -/
theorem decodeRegAddr_regAddr : decodeRegAddr P (regAddr P c r) = .ok (c, r) := by
  obtain ⟨-, -, hbank, -⟩ := layout_of_wf hP
  have hoff : regOffset r < P.stride := (regOffset_lt r).trans_le hbank
  have hin : inRegSpace P (regAddr P c r).toNat = true := by
    rw [inRegSpace_iff, regAddr_toNat hP]
    have := bankOffset_lt hP c r
    omega
  have hrel : (regAddr P c r).toNat - P.dmaBase.toNat = c.val * P.stride + regOffset r := by
    rw [regAddr_toNat hP, Nat.add_sub_cancel_left]
  have hmod : (c.val * P.stride + regOffset r) % P.stride = regOffset r := by
    rw [Nat.mul_add_mod', Nat.mod_eq_of_lt hoff]
  have hdiv : (c.val * P.stride + regOffset r) / P.stride = c.val := by
    rw [Nat.add_comm, Nat.add_mul_div_right _ _ (by omega), Nat.div_eq_of_lt hoff, Nat.zero_add]
  rw [decodeRegAddr, if_pos hin, hrel, hmod, hdiv, regOfOffset_eq_some_iff.2 rfl]
  exact congrArg (fun d => Except.ok (d, r)) (Fin.ofNat_val_eq_self c)

end

/-- An address that decodes is the address of what it decodes to: quotient and remainder give it back, and as it is a word
already, nothing wraps. -/
theorem regAddr_of_decodeRegAddr {P : Params} {c : Chan} {r : Reg} {a : Word} (h : decodeRegAddr P a = .ok (c, r)) : regAddr P c r = a := by
  unfold decodeRegAddr at h
  split at h
  next hin =>
    obtain ⟨hlo, hhi⟩ := (inRegSpace_iff P a.toNat).1 hin
    split at h
    next => cases h
    next r' hr =>
      obtain ⟨rfl, rfl⟩ := Prod.mk.inj (Except.ok.inj h)
      have hchan : (a.toNat - P.dmaBase.toNat) / P.stride < 16 :=
        Nat.div_lt_of_lt_mul (by rw [Nat.mul_comm]; omega)
      have hval : (Fin.ofNat 16 ((a.toNat - P.dmaBase.toNat) / P.stride)).val =
          (a.toNat - P.dmaBase.toNat) / P.stride := Nat.mod_eq_of_lt hchan
      rw [regAddr, hval, ← regOfOffset_eq_some_iff.1 hr, Nat.add_assoc, Nat.div_add_mod', Nat.add_sub_cancel' hlo,
        BitVec.ofNat_toNat, BitVec.setWidth_eq]
  next => cases h

/-- Outside the block no address decodes (R62, R105). -/
theorem decodeRegAddr_outsideBlock {P : Params} {a : Word} (h : inRegSpace P a.toNat = false) :
    decodeRegAddr P a = .error .outsideBlock := by
  rw [decodeRegAddr, h]; rfl

/-- Inside the block, an address between the registers of a bank does not decode (R91, R105). -/
theorem decodeRegAddr_noRegister {P : Params} {a : Word} (hP : P.wf = true) (hin : inRegSpace P a.toNat = true)
    (h : 0x30 ≤ (a.toNat - P.dmaBase.toNat) % P.stride ∨ a.toNat % 4 ≠ 0) : decodeRegAddr P a = .error .noRegister := by
  obtain ⟨hbase, hstride, -, -⟩ := layout_of_wf hP
  obtain ⟨hlo, -⟩ := (inRegSpace_iff P a.toNat).1 hin
  have halign : (a.toNat - P.dmaBase.toNat) % P.stride % 4 = (a.toNat - P.dmaBase.toNat) % 4 :=
    Nat.mod_mod_of_dvd _ (Nat.dvd_of_mod_eq_zero hstride)
  have hnone : regOfOffset ((a.toNat - P.dmaBase.toNat) % P.stride) = none := regOfOffset_eq_none (by omega)
  rw [decodeRegAddr, if_pos hin, hnone]

/-! ### The REG format -/

/-- The header is the direction bit followed by the address (R93). -/
theorem header_eq_append (h : BitVec 33) : BitVec.ofBool (h.getLsbD 32) ++ (h.setWidth 32 : Word) = h := by
  ext i hi
  rw [BitVec.getElem_append]
  split
  next hlt => simp [BitVec.getLsbD_eq_getElem hi]
  next hge =>
    obtain rfl : i = 32 := by omega
    simp [BitVec.getLsbD_eq_getElem]

theorem header_getLsbD_32 (we : Bool) (a : Word) : (BitVec.ofBool we ++ a).getLsbD 32 = we := by
  rw [BitVec.getLsbD_append]
  simp

section
variable {P : Params} (hP : P.wf = true) (c : Chan) (r : Reg)
include hP

theorem decodeRegAddr_header (we : Bool) :
    decodeRegAddr P ((BitVec.ofBool we ++ regAddr P c r).setWidth 32) = .ok (c, r) := by
  rw [BitVec.setWidth_append_eq_right, decodeRegAddr_regAddr hP]

/-! At the address of a register, the direction bit and the data word alone select the primitive (R93). -/

theorem decode_readRequest : decode P (readRequest P c r) = .ok (readInstr r c) := by
  rw [readRequest, regHeader, decode, decodeReg, if_pos rfl, decodeRegAddr_header hP, header_getLsbD_32]

theorem decode_writeRequest (v : Word) : decode P (writeRequest P c r v) = writeInstr r c v := by
  rw [writeRequest, regHeader, decode, decodeReg, if_pos rfl, decodeRegAddr_header hP, header_getLsbD_32]

theorem decodeReg_write_none :
    decodeReg P (BitVec.ofBool true ++ regAddr P c r) none 32 = .error .dataWord := by
  rw [decodeReg, if_pos rfl, decodeRegAddr_header hP, header_getLsbD_32]

theorem decodeReg_read_some (v : Word) :
    decodeReg P (BitVec.ofBool false ++ regAddr P c r) (some v) 32 = .error .dataWord := by
  rw [decodeReg, if_pos rfl, decodeRegAddr_header hP, header_getLsbD_32]

end

theorem encode_readInstr (P : Params) (r : Reg) (c : Chan) : encode P (readInstr r c) = readRequest P c r := by
  cases r <;> rfl

theorem encode_of_writeInstr (P : Params) {r : Reg} {c : Chan} {v : Word} {i : Instr} (h : writeInstr r c v = .ok i) :
    encode P i = writeRequest P c r v := by
  cases r with
  | cr | mr =>
    simp only [writeInstr] at h
    split at h <;> cases h
    rfl
  | _ => cases h; rfl

/-- A register access that decodes is the encoding of its primitive. -/
theorem encode_of_decodeReg {P : Params} {h : BitVec 33} {d : Option Word} {n : Nat} {i : Instr}
    (hdec : decodeReg P h d n = .ok i) : encode P i = .reg h d n := by
  unfold decodeReg at hdec
  split at hdec
  next hsize =>
    subst hsize
    split at hdec
    next => cases hdec
    next c r haddr =>
      have hheader (we : Bool) (hwe : h.getLsbD 32 = we) : regHeader P we c r = h := by
        rw [regHeader, regAddr_of_decodeRegAddr haddr, ← hwe, header_eq_append]
      split at hdec
      next hwe => cases hdec; rw [encode_readInstr, readRequest, hheader _ hwe]
      next hwe => rw [encode_of_writeInstr P hdec, writeRequest, hheader _ hwe]
      next => cases hdec
  next => cases hdec

/-! ### The CMD word -/

/-- Taking apart what was put together (R100): below each field stand the narrower ones, which the extraction skips. -/
theorem cmdFields_cmdWord (f : CmdFields) : cmdFields (cmdWord f) = f := by
  obtain ⟨op, ch, pid, w, z, a, blen, rlen⟩ := f
  simp only [cmdFields, cmdWord, CmdFields.mk.injEq]
  refine ⟨?op, ?ch, ?pid, ?w, ?z, ?a, ?blen, ?rlen⟩
  all_goals repeat rw [BitVec.extractLsb'_append_eq_of_le (by decide)]
  case rlen => exact BitVec.extractLsb'_eq_self
  all_goals exact BitVec.extractLsb'_append_eq_right

/-- Putting together what was taken apart (R100): the fields are adjacent and cover the word. -/
theorem cmdWord_cmdFields (x : BitVec 128) : cmdWord (cmdFields x) = x := by
  simp only [cmdWord, cmdFields, BitVec.extractLsb'_append_extractLsb'_eq_extractLsb']
  exact BitVec.extractLsb'_eq_self

/-- Adjacent fields are 0 exactly if the field they make up is (R105). -/
theorem extractLsb'_add_eq_zero_iff {k : Nat} (x : BitVec k) (s m n : Nat) :
    x.extractLsb' s (n + m) = 0 ↔ x.extractLsb' s m = 0 ∧ x.extractLsb' (s + m) n = 0 := by
  rw [← BitVec.extractLsb'_append_extractLsb'_eq_extractLsb' rfl]
  constructor
  · intro h
    have hlo := congrArg (BitVec.extractLsb' 0 m) h
    have hhi := congrArg (BitVec.extractLsb' m n) h
    rw [BitVec.extractLsb'_append_eq_right] at hlo
    rw [BitVec.extractLsb'_append_eq_left] at hhi
    exact ⟨hlo.trans BitVec.extractLsb'_zero, hhi.trans BitVec.extractLsb'_zero⟩
  · rintro ⟨hlo, hhi⟩
    rw [hlo, hhi]
    exact BitVec.zero_append_zero

/-! ### The CMD format, opcode by opcode -/

/-- Every field but `OP` and `CH` is 0 (R100). -/
def usesChannelOnly (f : CmdFields) : Prop := f.pid = 0 ∧ f.w = 0 ∧ f.z = 0 ∧ f.a = 0 ∧ f.blen = 0 ∧ f.rlen = 0

theorem onlyChannel_of_unused {f : CmdFields} {i : Instr} (h : ¬ usesChannelOnly f) :
    onlyChannel f i = .error .unusedField := if_neg h

theorem usesChannelOnly_of_onlyChannel {f : CmdFields} {i j : Instr} (h : onlyChannel f i = .ok j) : usesChannelOnly f := by
  by_contra hf
  rw [onlyChannel_of_unused hf] at h
  cases h

/-- A command that uses `CH` only is put together from its opcode and its channel. -/
theorem channelCmd_of_usesChannelOnly {f : CmdFields} {op : BitVec 4} (hop : f.op.toNat = op.toNat) (h : usesChannelOnly f) :
    channelCmd op (chanOfField f.ch) = .cmd (cmdWord f) := by
  obtain ⟨op', ch, pid, w, z, a, blen, rlen⟩ := f
  obtain rfl : op' = op := BitVec.eq_of_toNat_eq hop
  obtain ⟨rfl, rfl, rfl, rfl, rfl, rfl⟩ := h
  rw [channelCmd, chanField_chanOfField]

/-- `init` is put together from its opcode, channel, width and handle. -/
theorem encode_of_decodeInit (P : Params) {f : CmdFields} {i : Instr} (hop : f.op.toNat = 1) (h : decodeInit f = .ok i) :
    encode P i = .cmd (cmdWord f) := by
  obtain ⟨op, ch, pid, w, z, a, blen, rlen⟩ := f
  obtain rfl : op = 1 := BitVec.eq_of_toNat_eq hop
  simp only [decodeInit] at h
  split at h
  next hzero =>
    obtain ⟨rfl, rfl, rfl, rfl⟩ := hzero
    split at h
    next => cases h
    next w' hw =>
      cases h
      rw [encode, chanField_chanOfField, widthCode_of_widthOfCode hw]
  next => cases h

/-- `prepare` and `xfer` leave `W` and `Z` unused. -/
theorem unused_of_decodeTransfer {P : Params} {f : CmdFields} {j : Chan → BitVec 8 → Buffer → Word → Instr} {i : Instr}
    (h : decodeTransfer P f j = .ok i) : f.w = 0 ∧ f.z = 0 := by
  by_contra hf
  rw [decodeTransfer, if_neg hf] at h
  cases h

/-- A word whose `W` and `Z` are 0 is put together from its other fields. -/
theorem cmdWord_of_unused {f : CmdFields} {op : BitVec 4} (hop : f.op.toNat = op.toNat) (h : f.w = 0 ∧ f.z = 0) :
    cmdWord ⟨op, chanField (chanOfField f.ch), f.pid, 0, 0, f.a, f.blen, f.rlen⟩ = cmdWord f := by
  obtain ⟨hw, hz⟩ := h
  rw [chanField_chanOfField, ← BitVec.eq_of_toNat_eq hop, ← hw, ← hz]

/-- A command word that decodes is the encoding of its operation. -/
theorem encode_of_decodeFields {P : Params} {f : CmdFields} {i : Instr} (h : decodeFields P f = .ok i) :
    encode P i = .cmd (cmdWord f) := by
  unfold decodeFields at h
  -- `split` numbers the opcodes from 1: `h_2` is `init`, `h_6` and `h_8` are `prepare` and `xfer`, `h_12` the reserved ones.
  split at h
  case h_2 hop => exact encode_of_decodeInit P hop h
  case h_6 hop | h_8 hop =>
    obtain ⟨-, rfl⟩ := valid_of_decodeTransfer h
    exact congrArg Request.cmd (cmdWord_of_unused hop (unused_of_decodeTransfer h))
  case h_12 => cases h
  all_goals
    obtain rfl := eq_of_onlyChannel h
    exact channelCmd_of_usesChannelOnly ‹_› (usesChannelOnly_of_onlyChannel h)

/-! ### The round trip -/

/-- Settles O2, format by format. -/
theorem decodedRequestsReencode : Obligations.DecodedRequestsReencode := by
  intro P q i _ h
  refine ⟨?_, wellFormed_of_decode h⟩
  cases q with
  | reg header d n => exact encode_of_decodeReg h
  | cmd x => rw [encode_of_decodeFields h, cmdWord_cmdFields]

theorem decode_cmd_cmdWord (P : Params) (f : CmdFields) : decode P (.cmd (cmdWord f)) = decodeFields P f := by
  rw [decode, cmdFields_cmdWord]

/-- Settles O1: register primitives by their address, operations by their fields. -/
theorem decodeOfEncodeIsIdentity : Obligations.DecodeOfEncodeIsIdentity := by
  intro P i hP hwf
  cases i with
  | rdMar c | rdPsr c | rdTcr c | rdMarr c | rdTcrr c | rdCr c | rdMr c | rdSr c | rdIer c | rdIdr c | rdImr c | rdIsr c =>
    exact decode_readRequest hP c _
  | wrCr c v | wrMr c v => exact (decode_writeRequest hP c _ v).trans (if_pos hwf)
  | wrMar c v | wrPsr c v | wrTcr c v | wrMarr c v | wrTcrr c v | wrSr c v | wrIer c v | wrIdr c v | wrImr c v | wrIsr c v =>
    exact decode_writeRequest hP c _ v
  | init c k w =>
    rw [encode, decode_cmd_cmdWord]
    simp [decodeFields, decodeInit, widthOfCode_widthCode, chanOfField_chanField]
  | prepare c p b r | xfer c p b r =>
    have hvalid : validPid P p = true := hwf
    rw [encode, decode_cmd_cmdWord]
    simp [decodeFields, decodeTransfer, hvalid, chanOfField_chanField]
  | new c | enable c | disable c | isen c | start c | irq c | abort c | count c =>
    rw [encode, channelCmd, decode_cmd_cmdWord]
    simp [decodeFields, onlyChannel, chanOfField_chanField]

/-! ### What is refused -/

section
variable {P : Params} {f : CmdFields}

theorem decodeFields_reserved (h : 11 ≤ f.op.toNat) : decodeFields P f = .error .reservedOpcode := by
  unfold decodeFields
  split
  case h_12 => rfl
  all_goals omega

theorem decodeFields_init (h : f.op = 1) : decodeFields P f = decodeInit f := by
  rw [decodeFields, h]; rfl

theorem decodeFields_transfer (h : f.op = 5 ∨ f.op = 7) : ∃ j, decodeFields P f = decodeTransfer P f j := by
  obtain h | h := h
  · exact ⟨.prepare, by rw [decodeFields, h]; rfl⟩
  · exact ⟨.xfer, by rw [decodeFields, h]; rfl⟩

/-- The opcodes of R100 but `init`, `prepare` and `xfer` use `CH` only. -/
theorem decodeFields_channel (h : f.op.toNat < 11) (h1 : f.op ≠ 1) (h5 : f.op ≠ 5) (h7 : f.op ≠ 7) :
    ∃ i, decodeFields P f = onlyChannel f i := by
  unfold decodeFields
  split
  case h_2 hop => exact absurd (BitVec.eq_of_toNat_eq hop) h1
  case h_6 hop => exact absurd (BitVec.eq_of_toNat_eq hop) h5
  case h_8 hop => exact absurd (BitVec.eq_of_toNat_eq hop) h7
  case h_12 => grind
  all_goals exact ⟨_, rfl⟩

theorem decodeInit_of_unused (h : ¬ (f.pid = 0 ∧ f.z = 0 ∧ f.blen = 0 ∧ f.rlen = 0)) :
    decodeInit f = .error .unusedField := if_neg h

theorem decodeTransfer_of_unused {j : Chan → BitVec 8 → Buffer → Word → Instr} (h : ¬ (f.w = 0 ∧ f.z = 0)) :
    decodeTransfer P f j = .error .unusedField := if_neg h

/-- A word whose bits above `CH` are not all 0 has a field that its operation does not use. -/
theorem onlyChannel_of_upper {x : BitVec 128} (i : Instr) (h : x.extractLsb' 8 120 ≠ 0) :
    onlyChannel (cmdFields x) i = .error .unusedField := by
  refine onlyChannel_of_unused fun ⟨hpid, hw, hz, ha, hblen, hrlen⟩ => h ?_
  have hjoin := extractLsb'_add_eq_zero_iff x
  exact (hjoin 8 8 112).2 ⟨hpid, (hjoin 16 2 110).2 ⟨hw, (hjoin 18 14 96).2 ⟨hz, (hjoin 32 32 64).2 ⟨ha,
    (hjoin 64 32 32).2 ⟨hblen, hrlen⟩⟩⟩⟩⟩

/-- No operation uses `Z` (R100). -/
theorem decodeFields_reservedBits (h : f.op.toNat < 11) (hz : f.z ≠ 0) : decodeFields P f = .error .unusedField := by
  by_cases h1 : f.op = 1
  · rw [decodeFields_init h1, decodeInit_of_unused fun ⟨_, hz', _⟩ => hz hz']
  by_cases h57 : f.op = 5 ∨ f.op = 7
  · obtain ⟨j, hj⟩ := decodeFields_transfer (P := P) h57
    rw [hj, decodeTransfer_of_unused fun ⟨_, hz'⟩ => hz hz']
  obtain ⟨h5, h7⟩ := not_or.1 h57
  obtain ⟨i, hi⟩ := decodeFields_channel (P := P) h h1 h5 h7
  rw [hi, onlyChannel_of_unused fun ⟨_, _, hz', _⟩ => hz hz']

end

/-- `TEN` and `TDIS` together are no `wr.CR` (R134). -/
theorem writeInstr_cr_contradictory {v : Word} (c : Chan) (hten : v.getLsbD 0 = true) (htdis : v.getLsbD 1 = true) :
    writeInstr .cr c v = .error .contradictoryCr := by
  simp only [writeInstr, crAdmitted, hten, htdis]
  rfl

/-- `RING`, `ETRIG` and `SIZE = 3` are no `wr.MR` (R136). -/
theorem writeInstr_mr_reserved {v : Word} (c : Chan)
    (h : v.getLsbD 3 = true ∨ v.getLsbD 2 = true ∨ v.setWidth 2 = (3 : BitVec 2)) :
    writeInstr .mr c v = .error .reservedMode := by
  have hnot : mrAdmitted v = false := by
    obtain hring | hetrig | hsize := h
    · rw [mrAdmitted, hring]; rfl
    · rw [mrAdmitted, hetrig, Bool.not_true, Bool.and_false, Bool.false_and]
    · rw [mrAdmitted, hsize]; exact Bool.and_false _
  simp only [writeInstr, hnot]
  rfl

/-- A command that does not decode is no step: the run is marked refused (R105, R245). -/
theorem step_command_refused {s : State} {q : Request} {e : Reject} {t : List Input} (hin : s.inputs = .command q :: t)
    (hready : normalReady s = true) (hdec : decode s.params q = .error e) : step s = .refused (.notAnInstruction e) := by
  have hready' : normalReady (s.popInput t) = true := hready
  have hdec' : decode (s.popInput t).params q = .error e := hdec
  rw [step_eq_agentStep hin]
  change runCommand q (s.popInput t) = _
  rw [runCommand, if_pos hready', hdec']

/-- Settles O4, row by row of R105. -/
theorem reservedEncodingsAreRefused : Obligations.ReservedEncodingsAreRefused := by
  have hjoin := @extractLsb'_add_eq_zero_iff 128
  refine ⟨fun P x hop => decodeFields_reserved hop, fun P x hop hpid hw hz hlen => ?width3,
    fun P x hop hwz hpid => ?notPeripheral, fun P x hop hz => decodeFields_reservedBits hop hz,
    fun P x hop h1 h5 h7 hup => ?unusedChannel, fun P x hop hne => ?unusedInit, fun P x hop hw => ?unusedTransfer,
    fun P h d n hn => if_neg hn, fun P h d hout => ?outsideBlock, fun P h d hP hin hno => ?noRegister,
    fun P c r v hP => ⟨decodeReg_write_none hP c r, decodeReg_read_some hP c r v⟩,
    fun P c v hP hten htdis => (decode_writeRequest hP c .cr v).trans (writeInstr_cr_contradictory c hten htdis),
    fun P c v hP hmode => (decode_writeRequest hP c .mr v).trans (writeInstr_mr_reserved c hmode),
    fun s q e t hin hready hdec => step_command_refused hin hready hdec⟩
  case width3 =>
    obtain ⟨hblen, hrlen⟩ := (hjoin x 64 32 32).1 hlen
    have hcode : widthOfCode (cmdFields x).w = none := by rw [show (cmdFields x).w = 3 from hw]; rfl
    rw [decode, decodeFields_init hop, decodeInit, if_pos ⟨hpid, hz, hblen, hrlen⟩, hcode]
  case notPeripheral =>
    obtain ⟨j, hj⟩ := decodeFields_transfer (P := P) (f := cmdFields x) hop
    have hinvalid : ¬ validPid P (cmdFields x).pid = true := Bool.eq_false_iff.1 hpid
    have hunused : (cmdFields x).w = 0 ∧ (cmdFields x).z = 0 := (hjoin x 16 2 14).1 hwz
    rw [decode, hj, decodeTransfer, if_pos hunused, if_neg hinvalid]
  case unusedChannel =>
    obtain ⟨i, hi⟩ := decodeFields_channel (P := P) (f := cmdFields x) hop h1 h5 h7
    rw [decode, hi, onlyChannel_of_upper i hup]
  case unusedInit =>
    rw [decode, decodeFields_init hop]
    refine decodeInit_of_unused fun ⟨hpid, _, hblen, hrlen⟩ => ?_
    exact hne.elim (· hpid) (· ((hjoin x 64 32 32).2 ⟨hblen, hrlen⟩))
  case unusedTransfer =>
    obtain ⟨j, hj⟩ := decodeFields_transfer (P := P) (f := cmdFields x) hop
    rw [decode, hj, decodeTransfer_of_unused fun ⟨hw', _⟩ => hw hw']
  case outsideBlock => rw [decode, decodeReg, if_pos rfl, decodeRegAddr_outsideBlock hout]
  case noRegister => rw [decode, decodeReg, if_pos rfl, decodeRegAddr_noRegister hP hin hno]

/-! ### The example words and the RESP word -/

/-- Settles O3: each word is evaluated. -/
theorem specExampleWordsDecode : Obligations.SpecExampleWordsDecode :=
  ⟨rfl, rfl, rfl, rfl, rfl, rfl, rfl⟩

/-- Settles O5: below each field of the word stand the narrower ones, which the extraction skips. -/
theorem respWordLayout : Obligations.RespWordLayout := by
  refine ⟨fun r => ?_, rfl, rfl, rfl, rfl, rfl⟩
  unfold respWord
  refine ⟨?status, ?present, ?reserved, ?v0, ?v1⟩
  all_goals repeat rw [BitVec.extractLsb'_append_eq_of_le (by decide)]
  case v1 => exact BitVec.extractLsb'_eq_self
  all_goals exact BitVec.extractLsb'_append_eq_right

end Sys2Proof.Machine
end

section
/-! PROOF of the statements of 40_register_access.md: what the reads return (O7, O8), what each write does on a clocked block
(O9 to O15), the ignored writes (O16), accesses on an unclocked block (O17), and the frame of every access (O18).

Every primitive is one `regRead` or one `regWrite` (`exec_readInstr`, `exec_of_writeInstr`). A clocked write of a register that
is not read-only leaves the update with the reload and the pending latch (`exec_write_latched`). Where the update leaves the
channel settled and does not raise the line, these two do nothing and the update stands alone (`exec_write_quiet`). -/

namespace Sys2Proof.Machine

/-! ### Every primitive is one access -/

section
variable (s : State) (c : Chan) (r : Reg) (v : Word)

theorem runOp_readMicro (op : Instr) : runOp op [readMicro c r] s = (regRead c r s).2 := rfl

theorem runOp_writeMicro (op : Instr) : runOp op [writeMicro c r v] s = regWrite c r v s := rfl

theorem program_readInstr : program (readInstr r c) = [readMicro c r] := by
  cases r <;> rfl

/-- The meaning of a read primitive (R120). -/
theorem exec_readInstr : exec (readInstr r c) s = .next (regRead c r s).2 := by
  rw [exec_of_wellFormed (readInstr_wellFormed s.params r c), program_readInstr, runOp_readMicro]

end

section
variable {s t : State} {c : Chan} {r : Reg} {v : Word} {i : Instr}

theorem program_of_writeInstr (h : writeInstr r c v = .ok i) : program i = [writeMicro c r v] := by
  cases r with
  | cr | mr =>
    simp only [writeInstr] at h
    split at h <;> cases h
    rfl
  | _ => cases h; rfl

/-- The meaning of an admitted write primitive (R120). -/
theorem exec_of_writeInstr (h : writeInstr r c v = .ok i) : exec i s = .next (regWrite c r v s) := by
  rw [exec_of_wellFormed (wellFormed_of_writeInstr h), program_of_writeInstr h, runOp_writeMicro]

/-- A register access that has a meaning is a read or a write of one register (R120). -/
theorem registerAccess_cases (hi : isRegisterAccess i = true) (h : exec i s = .next t) :
    (∃ c r, t = (regRead c r s).2) ∨ (∃ c r v, t = regWrite c r v s) := by
  have hrun := eq_runOp_of_exec h
  cases i with
  | rdMar c | rdPsr c | rdTcr c | rdMarr c | rdTcrr c | rdCr c | rdMr c | rdSr c | rdIer c | rdIdr c | rdImr c | rdIsr c =>
    exact .inl ⟨c, _, hrun.trans (runOp_readMicro s c _ _)⟩
  | wrMar c v | wrPsr c v | wrTcr c v | wrMarr c v | wrTcrr c v | wrCr c v | wrMr c v | wrSr c v | wrIer c v | wrIdr c v
  | wrImr c v | wrIsr c v => exact .inr ⟨c, _, v, hrun.trans (runOp_writeMicro s c _ v _)⟩
  | _ => cases hi

end

/-! ### The frame of an access -/

theorem regWrite_sameEngine (c d : Chan) (r : Reg) (v : Word) (s : State) :
    sameEngine ((regWrite c r v s).chan d) (s.chan d) := by
  by_cases h : d = c
  · subst h
    rw [regWrite_chan_same]
    split
    · exact channelWrite_engine r v (s.chan d)
    · exact ⟨rfl, rfl, rfl, rfl, rfl⟩
  · rw [regWrite_chan_other c d r v s h]
    exact ⟨rfl, rfl, rfl, rfl, rfl⟩

/-- Settles O18: an access is one `regRead` or one `regWrite`, and neither touches the engine's side. -/
theorem registerAccessKeepsEngineState : Obligations.RegisterAccessKeepsEngineState := by
  intro i s t hi h
  obtain ⟨c, r, rfl⟩ | ⟨c, r, v, rfl⟩ := registerAccess_cases hi h
  case inl =>
    obtain ⟨d, hread⟩ := regRead_eq c r s
    rw [hread]
    exact ⟨fun _ => ⟨rfl, rfl, rfl, rfl, rfl⟩, rfl, rfl, rfl, rfl, rfl, rfl⟩
  case inr =>
    exact ⟨fun d => regWrite_sameEngine c d r v s, regWrite_numEnabled c r v s, regWrite_clk0 c r v s,
      regWrite_clk1 c r v s, regWrite_clkLog c r v s, regWrite_cbLog c r v s, regWrite_respLog c r v s⟩

/-! ### Reads -/

/-- A read of a readable register on a clocked block: its value, and no change of the block (R123 to R145). -/
theorem exec_read_clocked {s : State} {c : Chan} (r : Reg) {v : Word} (hclk : s.clkOk = true)
    (hv : readValue r (s.chan c) = some v) : exec (readInstr r c) s = .next (s.logBus (.rd c r v)) := by
  rw [exec_readInstr, regRead_clocked c r v hclk hv]

/-- A read of a write-only port is always a draw (R133, R139, R141). -/
theorem exec_read_writeOnly (s : State) (c : Chan) {r : Reg} (hv : readValue r (s.chan c) = none) :
    exec (readInstr r c) s = .next (s.nextDraw.logBus (.rd c r (s.readWord c r))) := by
  have hdraws : s.readDraws c r = true := by rw [State.readDraws, hv, Option.isSome_none, Bool.and_false, Bool.not_false]
  rw [exec_readInstr, regRead, if_pos hdraws]

theorem ofBool_setWidth (b : Bool) : (BitVec.ofBool b).setWidth 32 = (if b then 1 else 0 : Word) := by
  cases b <;> rfl

theorem threeBits_setWidth : ∀ terr trc rcz : Bool,
    (BitVec.ofBool terr ++ BitVec.ofBool trc ++ BitVec.ofBool rcz).setWidth 32 =
      ((if terr then 4 else 0) + (if trc then 2 else 0) + (if rcz then 1 else 0) : Word) := by
  decide

/-- The status word bit by bit (R33, R145). -/
theorem Channel.isr_setWidth (ch : Channel) : ch.isr.setWidth 32 =
    ((if ch.terr then 4 else 0) + (if ch.tcr = 0 ∧ ch.tcrr = 0 then 2 else 0) + (if ch.tcrr = 0 then 1 else 0) : Word) := by
  rw [Channel.isr, threeBits_setWidth]
  simp only [Bool.and_eq_true, beq_iff_eq]

/-- Settles O7; `SR` and `ISR` are put together from single bits. -/
theorem registerReadsReturnTheirValues : Obligations.RegisterReadsReturnTheirValues := by
  intro s c hclk
  exact ⟨exec_read_clocked .mar hclk rfl, exec_read_clocked .psr hclk rfl, exec_read_clocked .tcr hclk rfl,
    exec_read_clocked .marr hclk rfl, exec_read_clocked .tcrr hclk rfl, exec_read_clocked .mr hclk rfl,
    exec_read_clocked .sr hclk (congrArg some (ofBool_setWidth _)), exec_read_clocked .imr hclk rfl,
    exec_read_clocked .isr hclk (congrArg some (s.chan c).isr_setWidth)⟩

/-- Settles O8: these three ports have no value to read. -/
theorem writeOnlyReadsReturnADraw : Obligations.WriteOnlyReadsReturnADraw := fun s c =>
  ⟨⟨_, exec_read_writeOnly s c (r := .cr) rfl⟩, ⟨_, exec_read_writeOnly s c (r := .ier) rfl⟩,
    ⟨_, exec_read_writeOnly s c (r := .idr) rfl⟩⟩

/-! ### A landed write on its channel -/

@[simp] theorem regUpdate_pend (r : Reg) (v : Word) (ch : Channel) : (regUpdate r v ch).pend = ch.pend := by
  cases r with
  | cr | mr => rw [regUpdate]; split <;> rfl
  | _ => rfl

/-- The reload and the latch do nothing after an update that leaves no count waiting and does not raise the line (R200, R221). -/
theorem channelWrite_of_quiet {r : Reg} {v : Word} {ch : Channel} (hset : (regUpdate r v ch).settled)
    (hline : (regUpdate r v ch).line = true → ch.line = true) : channelWrite r v ch = regUpdate r v ch := by
  cases r with
  | sr | imr | isr => rfl
  | _ => rw [channelWrite_eq _ _ _ (by decide), Channel.normalise_of_settled hset, Channel.latch_of_no_edge hline]

/-- With mask and counts as before, only a newly set error latch can raise the line (R220). -/
theorem Channel.line_mono_terr {x y : Channel} (himr : y.imr = x.imr) (htcr : y.tcr = x.tcr) (htcrr : y.tcrr = x.tcrr)
    (hterr : y.terr = true → x.terr = true) (h : y.line = true) : x.line = true := by
  rw [lineIsUnmaskedStatus] at h ⊢
  rw [himr, htcr, htcrr] at h
  simp only [Bool.or_eq_true, Bool.and_eq_true] at h ⊢
  exact h.imp_right (And.imp_right hterr)

section
variable {s : State} {c : Chan} {r : Reg} {v : Word} {i : Instr} {n : Channel}

/-- A write on a clocked block, with the reload and the pending latch in the same micro-step (R120, R221). -/
theorem exec_write_latched (hi : writeInstr r c v = .ok i) (hr : r ≠ .sr ∧ r ≠ .imr ∧ r ≠ .isr) (hclk : s.clkOk = true)
    (hn : n = (regUpdate r v (s.chan c)).normalise) :
    exec i s = .next ((s.setChan c { n with pend := (s.chan c).pend || (!(s.chan c).line && n.line) }).logBus
      (.wr c r v)) := by
  have hpend : n.pend = (s.chan c).pend := by rw [hn, Channel.normalise_pend, regUpdate_pend]
  rw [exec_of_writeInstr hi, regWrite_clocked c r v hclk, channelWrite_eq r v _ hr, ← hn, Channel.latch, hpend]

/-- A write on a clocked block after which neither the reload nor the pending latch has anything to do. -/
theorem exec_write_quiet (hi : writeInstr r c v = .ok i) (hclk : s.clkOk = true) (hn : regUpdate r v (s.chan c) = n)
    (hset : n.settled) (hline : n.line = true → (s.chan c).line = true) :
    exec i s = .next ((s.setChan c n).logBus (.wr c r v)) := by
  subst hn
  rw [exec_of_writeInstr hi, regWrite_clocked c r v hclk, channelWrite_of_quiet hset hline]

end

/-! ### The writes on a clocked block -/

/-- Settles O9: neither a count nor a source of the line is among the stored bits. -/
theorem addressAndSelectWrites : Obligations.AddressAndSelectWrites := by
  intro s c v hclk hset
  exact ⟨exec_write_quiet (r := .mar) rfl hclk rfl hset (Channel.line_mono_terr rfl rfl rfl id),
    exec_write_quiet (r := .psr) rfl hclk rfl hset (Channel.line_mono_terr rfl rfl rfl id),
    exec_write_quiet (r := .marr) rfl hclk rfl hset (Channel.line_mono_terr rfl rfl rfl id)⟩

/-- Settles O10: the two cases are those of the reload after `TCR` is stored. -/
theorem counterWriteStopsOrReloads : Obligations.CounterWriteStopsOrReloads :=
  fun _ _ _ _ hclk hn => exec_write_latched (r := .tcr) rfl (by decide) hclk hn

/-- Settles O11: the two cases are those of the reload after `TCRR` is stored. -/
theorem reloadWriteLoadsOrQueues : Obligations.ReloadWriteLoadsOrQueues :=
  fun _ _ _ _ hclk hn => exec_write_latched (r := .tcrr) rfl (by decide) hclk hn

theorem crAdmitted_iff (v : Word) : crAdmitted v = true ↔ ¬(v.getLsbD 0 = true ∧ v.getLsbD 1 = true) := by
  rw [crAdmitted, Bool.not_eq_true', Bool.eq_false_iff, Ne, Bool.and_eq_true]

/-- Settles O12: the only source a command touches is the error latch, which `ECLR` clears. -/
theorem controlWriteCommands : Obligations.ControlWriteCommands := by
  intro s c v
  refine ⟨fun hboth => if_neg fun hadm => (crAdmitted_iff v).1 hadm hboth, fun hnot hclk hset => ?admitted⟩
  have hadm : crAdmitted v = true := (crAdmitted_iff v).2 hnot
  have heclr : (if v.getLsbD 8 then false else (s.chan c).terr) = ((s.chan c).terr && !v.getLsbD 8) := by
    cases v.getLsbD 8 <;> simp
  refine exec_write_quiet (r := .cr) (if_pos hadm) hclk ?update hset
    (Channel.line_mono_terr rfl rfl rfl fun hterr => (Bool.and_eq_true_iff.1 hterr).1)
  case update => rw [regUpdate, if_pos hadm, heclr]

theorem mrAdmitted_iff (v : Word) :
    mrAdmitted v = true ↔ v.getLsbD 3 = false ∧ v.getLsbD 2 = false ∧ v.setWidth 2 ≠ (3 : BitVec 2) := by
  have hsize : ∀ b : BitVec 2, (widthOfCode b).isSome = true ↔ b ≠ 3 := by decide
  rw [mrAdmitted, Bool.and_eq_true, Bool.and_eq_true, hsize, Bool.not_eq_true', Bool.not_eq_true', and_assoc]

/-- With `RING` and `ETRIG` 0 the low four bits are those of `SIZE` (R92). -/
theorem setWidth_size {v : Word} (hring : v.getLsbD 3 = false) (hetrig : v.getLsbD 2 = false) :
    (v.setWidth 2).setWidth 4 = v.setWidth 4 := by
  apply BitVec.eq_of_getLsbD_eq
  intro k hk
  interval_cases k <;> simp only [BitVec.getLsbD_setWidth, hring, hetrig] <;> rfl

/-- Settles O13: the mode is neither a count nor a source of the line. -/
theorem modeWriteSelectsSize : Obligations.ModeWriteSelectsSize := by
  intro s c v
  refine ⟨fun hres => if_neg fun hadm => ?refused, fun hring hetrig hsize hclk hset => ?admitted⟩
  case refused =>
    obtain ⟨hring, hetrig, hsize⟩ := (mrAdmitted_iff v).1 hadm
    rw [hring, hetrig] at hres
    exact hsize (by simpa only [Bool.false_eq_true, false_or] using hres)
  case admitted =>
    have hadm : mrAdmitted v = true := (mrAdmitted_iff v).2 ⟨hring, hetrig, hsize⟩
    refine exec_write_quiet (r := .mr) (if_pos hadm) hclk ?update hset (Channel.line_mono_terr rfl rfl rfl id)
    rw [regUpdate, if_pos hadm, setWidth_size hring hetrig]

/-- Settles O14: unmasking leaves the counts, so there is nothing to reload. -/
theorem interruptEnableUnmasks : Obligations.InterruptEnableUnmasks := by
  intro s c v n hclk hset hn
  have hreload : n = (regUpdate .ier v (s.chan c)).normalise := by
    rw [Channel.normalise_of_settled (ch := regUpdate .ier v (s.chan c)) hset]; exact hn
  exact exec_write_latched (r := .ier) rfl (by decide) hclk hreload

/-- Settles O15: a smaller mask cannot raise the line. -/
theorem interruptDisableMasks : Obligations.InterruptDisableMasks :=
  fun _ _ _ hclk hset => exec_write_quiet (r := .idr) rfl hclk rfl hset (Channel.line_mono_imr _ rfl rfl rfl rfl)

/-! ### Ignored writes -/

/-- Whether a write's landing is drawn shows in the count of draws only (R121). -/
theorem State.afterWriteDraw_eq (s : State) : s.afterWriteDraw = { s with draws := s.afterWriteDraw.draws } := by
  unfold State.afterWriteDraw
  split
  · rfl
  · split <;> rfl

/-- A write of a read-only register, landed or not (R138, R144, R146). -/
theorem regWrite_readOnly {r : Reg} (hr : r = .sr ∨ r = .imr ∨ r = .isr) (c : Chan) (v : Word) (s : State) :
    regWrite c r v s = s.afterWriteDraw.logBus (.wr c r v) := by
  have hself : s.afterWriteDraw.setChan c (s.chan c) = s.afterWriteDraw := by
    rw [State.afterWriteDraw_eq]; exact State.setChan_chan_self _ c
  rw [regWrite, channelWrite_readOnly r v _ hr, hself, ite_self]

/-- Settles O16: all three registers see the same draw, if there is one. -/
theorem readOnlyWritesAreIgnored : Obligations.ReadOnlyWritesAreIgnored := by
  intro s c v
  have hignored {r : Reg} {i : Instr} (hr : r = .sr ∨ r = .imr ∨ r = .isr) (hi : writeInstr r c v = .ok i) :
      exec i s = .next ({ s with draws := s.afterWriteDraw.draws }.logBus (.wr c r v)) := by
    rw [exec_of_writeInstr hi, regWrite_readOnly hr, ← State.afterWriteDraw_eq]
  refine ⟨s.afterWriteDraw.draws, fun hclk => ?clocked, hignored (.inl rfl) rfl, hignored (.inr (.inl rfl)) rfl,
    hignored (.inr (.inr rfl)) rfl⟩
  rw [State.afterWriteDraw, if_pos hclk]

/-! ### Accesses on an unclocked block -/

theorem State.clocked_clkOk (s : State) : s.clocked.clkOk = true := rfl

/-- A write comes out as on the clocked block where it lands, and changes no channel where it does not (R121). -/
theorem regWrite_chans (c : Chan) (r : Reg) (v : Word) (s : State) :
    (regWrite c r v s).chans = if s.writeLands then (regWrite c r v s.clocked).chans else s.chans := by
  rw [regWrite_clocked c r v s.clocked_clkOk, regWrite, State.afterWriteDraw_eq]
  split <;> rfl

/-- Where `CLKOFF_ACCESS` lets accesses land, a read returns what it returns on the clocked block (R121). -/
theorem State.readWord_clocked {s : State} (c : Chan) (r : Reg) (hoff : s.params.clkOff = .lands) :
    s.clocked.readWord c r = s.readWord c r := by
  have hrel : s.readReliable = true := by rw [State.readReliable, hoff]; exact Bool.or_true _
  have hrel' : s.clocked.readReliable = true := by rw [State.readReliable, State.clocked_clkOk, Bool.true_or]
  rw [State.readWord, State.readWord, if_pos hrel, if_pos hrel']
  rfl

theorem regRead_chans (c : Chan) (r : Reg) (s : State) : (regRead c r s).2.chans = s.chans := by
  obtain ⟨d, hread⟩ := regRead_eq c r s
  rw [hread]; rfl

theorem regRead_busLog (c : Chan) (r : Reg) (s : State) :
    (regRead c r s).2.busLog = s.busLog ++ [.rd c r (s.readWord c r)] := by
  obtain ⟨d, hread⟩ := regRead_eq c r s
  rw [hread]; rfl

/-- Settles O17: what a write does to the channels turns on whether it lands, and a read never changes them. -/
theorem unclockedAccessFollowsParameter : Obligations.UnclockedAccessFollowsParameter := by
  refine ⟨fun s c r v i hclk hi => ?write, fun s c r hclk => ?read⟩
  case write =>
    refine ⟨_, _, exec_of_writeInstr hi, exec_of_writeInstr hi, regWrite_busLog c r v s, fun hoff => ?lands,
      fun hoff => ?dropped, fun _ => ?draw⟩ <;> rw [regWrite_chans]
    case lands => exact if_pos (by rw [State.writeLands, hoff]; exact Bool.or_true _)
    case dropped => exact if_neg (by rw [State.writeLands, hclk, hoff]; exact Bool.false_ne_true)
    case draw => exact ite_eq_or_eq _ _ _
  case read =>
    refine ⟨_, _, _, exec_readInstr s c r, exec_readInstr s.clocked c r, regRead_chans c r s, regRead_busLog c r s,
      fun hoff => ?lands⟩
    rw [regRead_busLog, regRead_busLog, State.readWord_clocked c r hoff]
    rfl

end Sys2Proof.Machine
end

section
/-! PROOF of the statements of 41_lifecycle.md: the queries (O20), `init` (O21), `enable` (O22) and `disable` (O23).

What `enable` and `disable` come to as a chain of shared operations is `runOp_enable_of_not_en` and `runOp_disable_of_en`. Here
the chain's last two links, the register write and the flag, are joined into one update of the channel
(`setEnabled_regWrite_mask`, `setDisabled_regWrite_tdis`): neither write moves a count or raises the line, so on a settled channel
the reload and the pending latch do nothing. -/

namespace Sys2Proof.Machine

/-! ### The queries and `init` -/

section
variable {s : State} (c : Chan)

/-- `is_enabled` answers the flag as a word (R166). -/
theorem exec_isen {b : Bool} (h : (s.chan c).en = b) :
    exec (.isen c) s = .next (s.logResp ⟨.isen c, respValue (if b then 1 else 0)⟩) := by
  subst h; rfl

/-- The two stores of `init` are one update of the channel (R163). -/
theorem runMicros_progInit (k : Word) (w : Width) :
    runMicros (progInit c k w) {} s = (s.setChan c { s.chan c with cb := some k, width := some w }, some respOk) := by
  rw [progInit, runMicros_act, runMicros_act, runMicros_nil, State.setChan_setChan, State.setChan_chan_same]

end

/-- Settles O20: both queries are a single micro-step, which answers. -/
theorem pureQueriesAnswer : Obligations.PureQueriesAnswer :=
  fun _ c => ⟨rfl, exec_isen c, exec_isen c⟩

/-- Settles O21: the two stores are all that `init` does before it answers. -/
theorem initializeStoresCallbackAndWidth : Obligations.InitializeStoresCallbackAndWidth := by
  intro s c k w
  rw [exec, execInit, runOp, runMicros_progInit]
  rfl

/-! ### The register writes of `enable` and `disable` -/

section
variable {ch : Channel}

/-- Masking every source (R142, R164). -/
theorem channelWrite_idr_intAll (h : ch.settled) : channelWrite .idr intAll ch = { ch with imr := 0 } := by
  have hmask : ch.imr &&& ~~~(intAll.setWidth 3) = 0 := BitVec.and_zero
  rw [channelWrite_of_quiet (r := .idr) h (Channel.line_mono_imr _ rfl rfl rfl rfl), regUpdate, hmask]

/-- The stop command (R134, R165). -/
theorem channelWrite_cr_crTdis (h : ch.settled) : channelWrite .cr crTdis ch = { ch with ten := false } :=
  channelWrite_of_quiet (r := .cr) (v := crTdis) h (Channel.line_mono_terr rfl rfl rfl id)

end

section
variable {u : State} {c : Chan}

/-- Where `CLKOFF_ACCESS` lets accesses land, every write lands (R121). -/
theorem State.writeLands_of_lands (hoff : u.params.clkOff = .lands) : u.writeLands = true := by
  rw [State.writeLands, hoff]; exact Bool.or_true _

/-- Where `CLKOFF_ACCESS` drops accesses, no write on an unclocked block lands (R121). -/
theorem State.writeLands_of_dropped (hclk : u.clkOk = false) (hoff : u.params.clkOff = .dropped) : u.writeLands = false := by
  rw [State.writeLands, hclk, hoff]; rfl

/-- On a clocked block every write lands (R121). -/
theorem State.writeLands_of_clkOk (hclk : u.clkOk = true) : u.writeLands = true := by
  rw [State.writeLands, hclk, Bool.true_or]

/-- Steps 5 and 6 of `enable`, on a clocked block, as one update of the channel (R164). -/
theorem setEnabled_regWrite_mask (hclk : u.clkOk = true) (hset : (u.chan c).settled) :
    setEnabled c (regWrite c .idr intAll u) =
      (u.setChan c { u.chan c with
        imr := 0, en := true, fsm := if (u.chan c).fsm = .disabled then .idle else (u.chan c).fsm }).logBus
        (.wr c .idr intAll) := by
  rw [regWrite_clocked c .idr intAll hclk, channelWrite_idr_intAll hset, setEnabled, State.logBus_chan,
    State.setChan_chan_same]
  exact congrArg (State.logBus · _) (State.setChan_setChan u c _ _)

/-- Steps 5 and 6 of `disable` as one update of the channel: `SR.TEN` is cleared if the write lands (R165). -/
theorem setDisabled_regWrite_tdis (hset : (u.chan c).settled) : ∃ d, (u.clkOk = true → d = u.draws) ∧
    setDisabled c (regWrite c .cr crTdis u) =
      ({ u with draws := d }.setChan c { u.chan c with
        ten := (u.chan c).ten && !u.writeLands, en := false, fsm := .disabled }).logBus (.wr c .cr crTdis) := by
  obtain ⟨d, hdraws, hwrite⟩ := regWrite_eq c .cr crTdis u
  have hchan : (if u.writeLands then channelWrite .cr crTdis (u.chan c) else u.chan c) =
      { u.chan c with ten := (u.chan c).ten && !u.writeLands } := by
    cases u.writeLands with
    | true => rw [if_pos rfl, channelWrite_cr_crTdis hset, Bool.not_true, Bool.and_false]
    | false => rw [if_neg Bool.false_ne_true, Bool.not_false, Bool.and_true]
  refine ⟨d, hdraws, ?_⟩
  rw [hwrite, hchan, setDisabled, State.logBus_chan, State.setChan_chan_same]
  exact congrArg (State.logBus · _) (State.setChan_setChan { u with draws := d } c _ _)

/-- On a clocked block the write lands and nothing is drawn (R121, R165). -/
theorem setDisabled_regWrite_tdis_of_clkOk (hclk : u.clkOk = true) (hset : (u.chan c).settled) :
    setDisabled c (regWrite c .cr crTdis u) =
      (u.setChan c { u.chan c with ten := false, en := false, fsm := .disabled }).logBus (.wr c .cr crTdis) := by
  obtain ⟨d, hdraws, hwrite⟩ := setDisabled_regWrite_tdis hset
  rw [hwrite, hdraws hclk, State.writeLands_of_clkOk hclk, Bool.not_true, Bool.and_false]

end

/-! ### `enable` -/

theorem enableClock_both (s : State) : enableClock .d1 (enableClock .d0 s) =
    { s with clk0 := true, clk1 := true, clkLog := s.clkLog ++ [⟨true, .d0⟩, ⟨true, .d1⟩] } := by
  simp [enableClock_eq]

/-- Settles O22: the mask is written on a block that the two requests have just clocked. -/
theorem enableCountsOnce : Obligations.EnableCountsOnce := by
  intro s a c hset ha
  rw [← enableClock_both] at ha
  have hexec : exec (.enable c) s = .next (runOp (.enable c) (program (.enable c)) s) := exec_of_wellFormed rfl
  refine ⟨fun hen => ?enabled, fun hen => ?notEnabled⟩
  case enabled => rw [hexec, runOp_enable_of_en hen, ha]; rfl
  case notEnabled =>
    have hclk : (fetchAdd (enableClock .d1 (enableClock .d0 s))).clkOk = true := enableClock_both_clkOk s
    have hchan : (fetchAdd (enableClock .d1 (enableClock .d0 s))).chan c = s.chan c := by simp
    rw [hexec, runOp_enable_of_not_en hen, setEnabled_regWrite_mask hclk (hchan ▸ hset), hchan, fetchAdd_eq, ha,
      enableClock_both]
    rfl

/-! ### `disable` -/

theorem disableClock_both (s : State) : disableClock .d1 (disableClock .d0 s) =
    { s with clk0 := false, clk1 := false, clkLog := s.clkLog ++ [⟨false, .d0⟩, ⟨false, .d1⟩] } := by
  simp [disableClock_eq]

/-- The decrement of `disable` faults at a zero counter, before anything is changed (R160, R165, R244). -/
theorem runOp_disable_of_underflow {s : State} {c : Chan} (h : (s.chan c).en = true) (hn : s.numEnabled = 0) :
    runOp (.disable c) (program (.disable c)) s = s.logResp ⟨.disable c, respFault .counterUnderflow⟩ := by
  have hsub : fetchSub s = none := if_pos hn
  simp [runOp, program, progDisable, runMicros, h, decrement, hsub, complete]

/-- The clocks and their log after the decrement from `old` (R165). -/
theorem clocksAfterDisable_eq (old : BitVec 32) (s : State) : clocksAfterDisable old s = { s with
    clk0 := s.clk0 && decide (old ≠ 1),
    clk1 := s.clk1 && decide (old ≠ 1),
    clkLog := if old = 1 then s.clkLog ++ [⟨false, .d0⟩, ⟨false, .d1⟩] else s.clkLog } := by
  rw [clocksAfterDisable]
  by_cases h : old = 1
  · rw [if_pos h, if_pos h, disableClock_both, decide_eq_false (not_not_intro h), Bool.and_false, Bool.and_false]
  · rw [if_neg h, if_neg h, decide_eq_true h, Bool.and_true, Bool.and_true]

/-- `disable` writes `CR` on an unclocked block for the last channel, and wherever the block was unclocked before (R165). -/
theorem clocksAfterDisable_clkOk {old : BitVec 32} {s : State} (h : old = 1 ∨ s.clkOk = false) :
    (clocksAfterDisable old s).clkOk = false := by
  rw [clocksAfterDisable]
  by_cases hlast : old = 1
  · rw [if_pos hlast, disableClock_both]; rfl
  · rw [if_neg hlast]; exact h.resolve_left hlast

/-- Settles O23: the counter tells the paths apart, and whether the stop command lands is read on the block as the clock calls
left it. -/
theorem disableCountsDown : Obligations.DisableCountsDown := by
  intro s c hset
  have hexec : exec (.disable c) s = .next (runOp (.disable c) (program (.disable c)) s) := exec_of_wellFormed rfl
  refine ⟨fun hen => ?notEnabled, fun hen hn => ?underflow, fun hen hn hn1 hclk => ?clocked, fun hen hoff => ?unclocked⟩
  case notEnabled => rw [hexec, runOp_disable_of_not_en hen]; rfl
  case underflow => rw [hexec, runOp_disable_of_underflow hen hn]; rfl
  case clocked =>
    have hkeep : clocksAfterDisable s.numEnabled { s with numEnabled := s.numEnabled - 1 } =
        { s with numEnabled := s.numEnabled - 1 } := if_neg hn1
    rw [hexec, runOp_disable_of_en hen hn, hkeep,
      setDisabled_regWrite_tdis_of_clkOk (u := { s with numEnabled := s.numEnabled - 1 }) hclk hset]
    rfl
  case unclocked =>
    have hn : s.numEnabled ≠ 0 := hoff.elim (fun h1 => h1 ▸ by decide) And.left
    have hclk : (clocksAfterDisable s.numEnabled { s with numEnabled := s.numEnabled - 1 }).clkOk = false :=
      clocksAfterDisable_clkOk (hoff.imp id And.right)
    have hafter := clocksAfterDisable_eq s.numEnabled { s with numEnabled := s.numEnabled - 1 }
    have hrun := hexec.trans (congrArg Host.Outcome.next (runOp_disable_of_en hen hn))
    generalize clocksAfterDisable s.numEnabled { s with numEnabled := s.numEnabled - 1 } = u at hclk hafter hrun
    have hchan : u.chan c = s.chan c := by rw [hafter]; rfl
    have hparams : u.params = s.params := by rw [hafter]
    obtain ⟨d, -, hwrite⟩ := setDisabled_regWrite_tdis (hchan ▸ hset)
    refine ⟨u.writeLands, d, fun h => State.writeLands_of_lands (hparams ▸ h),
      fun h => State.writeLands_of_dropped hclk (hparams ▸ h), ?_⟩
    rw [hrun, hwrite, hchan]
    generalize u.writeLands = lands
    rw [hafter]
    rfl

end Sys2Proof.Machine
end

section
/-! PROOF of the statements of 42_transfer.md: the programmed count (O25), `prepare` (O27), `start` (O30), `xfer` (O28, O31),
`transfer_counter` (O32) and `abort` (O33).

A write of an operation comes down to an update of the channel, reload and pending latch included. On a clocked block the
operations change their channel, the register traffic and the response log only, so each is followed from state to state in the
form `State.atChannel`, in which one micro-step is one such update. `prepare` and `xfer` pass or fail the same guards
(`prepareGuard_cases`); after them `prepare` is `programChannel`, and `xfer` is that and then `startChannel`. -/

namespace Sys2Proof.Machine

/-! ### The programmed count -/

theorem programmedCount_toNat (w : Width) (blen r : Word) :
    (programmedCount w blen r).toNat = min r.toNat (blen.toNat / widthBytes w) % 65536 := BitVec.toNat_ofNat _ _

/-- Settles O25: the count is at most the number of elements that fit, cut to 16 bits or not. -/
theorem programmedCountStaysInBuffer : Obligations.ProgrammedCountStaysInBuffer := by
  intro w blen r
  rw [programmedCount_toNat]
  refine ⟨rfl, fun hfit => Nat.mod_eq_of_lt (Nat.lt_succ_of_le hfit), ?_⟩
  calc min r.toNat (blen.toNat / widthBytes w) % 65536 * widthBytes w
      ≤ blen.toNat / widthBytes w * widthBytes w := Nat.mul_le_mul_right _ ((Nat.mod_le _ _).trans (min_le_right _ _))
    _ ≤ blen.toNat := Nat.div_mul_le_self _ _

/-! ### The register writes on the channel -/

section
variable {ch : Channel}

/-- On an empty live count the reload brings in whatever count waits, a zero count too (R128, R200). -/
theorem Channel.normalise_of_empty (htcr : ch.tcr = 0) : ch.normalise =
    { ch with mar := if ch.tcrr = 0 then ch.mar else ch.marr, tcr := ch.tcrr, tcrr := 0 } := by
  by_cases htcrr : ch.tcrr = 0
  · have hkeep : ch.normalise = ch := Channel.normalise_of_settled fun _ => htcrr
    rw [hkeep, if_pos htcrr]
    exact congrArg₂ (fun n m : BitVec 16 => { ch with tcr := n, tcrr := m }) (htcr.trans htcrr.symm) htcrr
  · rw [Channel.normalise, if_pos ⟨htcr, htcrr⟩, if_neg htcrr]

/-- While every source is masked, a write sets no pending latch (R220, R221). -/
theorem channelWrite_of_masked {r : Reg} {v : Word} (hr : r ≠ .sr ∧ r ≠ .imr ∧ r ≠ .isr)
    (himr : (regUpdate r v ch).imr = 0) : channelWrite r v ch = (regUpdate r v ch).normalise := by
  have hlow : (regUpdate r v ch).normalise.line = false := Channel.line_of_masked (by rw [Channel.normalise_imr, himr])
  rw [channelWrite_eq r v ch hr, Channel.latch_of_no_edge (by simp [hlow])]

/-- A write whose update leaves the reload and the latch nothing to do (R200, R221). -/
theorem channelWrite_of_update {r : Reg} {v : Word} {new : Channel} (hnew : regUpdate r v ch = new) (hset : new.settled)
    (hline : new.line = true → ch.line = true) : channelWrite r v ch = new := by
  subst hnew
  exact channelWrite_of_quiet hset hline

theorem mrAdmitted_widthCode (w : Width) : mrAdmitted ((widthCode w).setWidth 32) = true := by
  cases w <;> rfl

/-- Step 1 of `prepare`: the size (R180). -/
theorem channelWrite_mr_widthCode (w : Width) (hset : ch.settled) :
    channelWrite .mr ((widthCode w).setWidth 32) ch = { ch with mr := (widthCode w).setWidth 4 } := by
  have hupdate : regUpdate .mr ((widthCode w).setWidth 32) ch = { ch with mr := (widthCode w).setWidth 4 } := by
    simp [regUpdate, mrAdmitted_widthCode]
  exact channelWrite_of_update hupdate hset id

/-- Step 2 of `prepare`: the peripheral code (R180). -/
theorem channelWrite_psr (p : BitVec 8) (hset : ch.settled) :
    channelWrite .psr (p.setWidth 32) ch = { ch with psr := p } := by
  have hupdate : regUpdate .psr (p.setWidth 32) ch = { ch with psr := p } := by simp [regUpdate]
  exact channelWrite_of_update hupdate hset id

/-- Step 3 of `prepare`: the buffer's address (R180). -/
theorem channelWrite_marr (a : Word) (hset : ch.settled) : channelWrite .marr a ch = { ch with marr := a } :=
  channelWrite_of_update rfl hset id

/-- Step 4 of `prepare`, with nothing left to move: the count is live at once (R180, R200). -/
theorem channelWrite_tcrr_of_empty (n : BitVec 16) (htcr : ch.tcr = 0) (himr : ch.imr = 0) :
    channelWrite .tcrr (n.setWidth 32) ch =
      { ch with mar := if n = 0 then ch.mar else ch.marr, tcr := n, tcrr := 0 } := by
  have hupdate : regUpdate .tcrr (n.setWidth 32) ch = { ch with tcrr := n } := by simp [regUpdate]
  rw [channelWrite_of_masked (by decide) (by rwa [hupdate]), hupdate,
    Channel.normalise_of_empty (ch := { ch with tcrr := n }) htcr]

/-- Step 5 of `prepare`, from a masked channel: a zero count raises the line that `TRC` now drives (R180, R296). -/
theorem channelWrite_ier_intTrc (htcrr : ch.tcrr = 0) (himr : ch.imr = 0) :
    channelWrite .ier intTrc ch = { ch with imr := 0b010, pend := ch.pend || decide (ch.tcr = 0) } := by
  have hupdate : regUpdate .ier intTrc ch = { ch with imr := 0b010 } := by rw [regUpdate, himr]; rfl
  have hkeep : Channel.normalise { ch with imr := 0b010 } = { ch with imr := 0b010 } :=
    Channel.normalise_of_settled fun _ => htcrr
  have hline : Channel.line { ch with imr := 0b010 } = decide (ch.tcr = 0) := by
    rw [lineIsUnmaskedStatus]; simp [htcrr]
  rw [channelWrite_eq .ier intTrc ch (by decide), hupdate, hkeep, Channel.latch, hline, Channel.line_of_masked himr]
  rfl

/-- The start command (R134, R182). -/
theorem channelWrite_cr_crTen (hset : ch.settled) : channelWrite .cr crTen ch = { ch with ten := true } :=
  channelWrite_of_update rfl hset (Channel.line_mono_terr rfl rfl rfl id)

/-- Stopping a masked channel: the count is gone, unless one was queued (R128, R185). -/
theorem channelWrite_tcr_zero (himr : ch.imr = 0) : channelWrite .tcr 0 ch =
    { ch with mar := if ch.tcrr = 0 then ch.mar else ch.marr, tcr := ch.tcrr, tcrr := 0 } := by
  rw [channelWrite_of_masked (r := .tcr) (v := 0) (by decide) himr,
    Channel.normalise_of_empty (ch := regUpdate .tcr 0 ch) rfl]
  rfl

/-- A masked channel with nothing left to move, after `prepare` (R180). -/
def Channel.prepared (ch : Channel) (w : Width) (p : BitVec 8) (b : Buffer) (n : BitVec 16) : Channel :=
  { ch with
    mr := (widthCode w).setWidth 4, psr := p, marr := b.addr, mar := if n = 0 then ch.mar else b.addr, tcr := n,
    imr := 0b010, slot := some b, fsm := if ch.fsm = .idle then .configured else ch.fsm,
    pend := ch.pend || decide (n = 0) }

/-- A settled channel after `start` (R182). -/
def Channel.started (ch : Channel) : Channel :=
  { ch with ten := true, fsm := if ch.fsm = .configured then .running else ch.fsm }

/-- The five writes of `prepare` together, before the slot is filled (R180). -/
theorem channelWrite_prepare (w : Width) (p : BitVec 8) (b : Buffer) (n : BitVec 16) (htcr : ch.tcr = 0)
    (htcrr : ch.tcrr = 0) (himr : ch.imr = 0) :
    channelWrite .ier intTrc (channelWrite .tcrr (n.setWidth 32) (channelWrite .marr b.addr
      (channelWrite .psr (p.setWidth 32) (channelWrite .mr ((widthCode w).setWidth 32) ch)))) =
    { ch.prepared w p b n with slot := ch.slot, fsm := ch.fsm } := by
  simp only [channelWrite_mr_widthCode, channelWrite_psr, channelWrite_marr, channelWrite_tcrr_of_empty,
    channelWrite_ier_intTrc, Channel.prepared, Channel.settled, htcr, htcrr, himr, implies_true]

end

/-! ### The operations on one channel of a clocked block -/

/-- The state with one channel and the register traffic replaced. -/
def State.atChannel (s : State) (c : Chan) (ch : Channel) (log : List BusEvent) : State :=
  { s.setChan c ch with busLog := log }

section
variable {s : State} {c : Chan} {ch : Channel} {log : List BusEvent}

theorem State.atChannel_self (s : State) (c : Chan) : s.atChannel c (s.chan c) s.busLog = s := by
  rw [State.atChannel, State.setChan_chan_self]

theorem State.atChannel_chan : (s.atChannel c ch log).chan c = ch := State.setChan_chan_same s c ch

theorem State.atChannel_setChan (x : Channel) : (s.atChannel c ch log).setChan c x = s.atChannel c x log :=
  congrArg (fun u : State => { u with busLog := log }) (State.setChan_setChan s c ch x)

theorem regWrite_atChannel (hclk : s.clkOk = true) (r : Reg) (v : Word) :
    regWrite c r v (s.atChannel c ch log) = s.atChannel c (channelWrite r v ch) (log ++ [.wr c r v]) := by
  rw [regWrite_clocked (s := s.atChannel c ch log) c r v hclk, State.atChannel_chan, State.atChannel_setChan]
  rfl

theorem fillSlot_atChannel (b : Buffer) : fillSlot c b (s.atChannel c ch log) =
    s.atChannel c { ch with slot := some b, fsm := if ch.fsm = .idle then .configured else ch.fsm } log := by
  rw [fillSlot, State.atChannel_chan, State.atChannel_setChan]

theorem releaseSlot_atChannel (l : Locals) : releaseSlot c l (s.atChannel c ch log) =
    (s.atChannel c { ch with slot := none, fsm := toIdle ch.fsm } log, .go { l with buf := ch.slot }) := by
  rw [releaseSlot, State.atChannel_chan, State.atChannel_setChan]

end

/-! ### The guards of `prepare` -/

section
variable {s : State} {c : Chan} {b : Buffer} {r : Word}

theorem prepareGuard_of_free {w : Width} (hw : (s.chan c).width = some w) (hslot : (s.chan c).slot = none) (l : Locals) :
    prepareGuard c b r l s = (s, .go { l with width := w, count := programmedCount w b.blen r }) := by
  simp [prepareGuard, hw, hslot]

/-- The guards of `prepare` fault without a change, or they find a width and an empty slot (R180, R241, R242). -/
theorem prepareGuard_cases (c : Chan) (b : Buffer) (r : Word) (s : State) :
    (∃ st, st ≠ .ok ∧ ∀ l, prepareGuard c b r l s = (s, .done (some (respFault st)))) ∨
    ∃ w, (s.chan c).width = some w ∧ (s.chan c).slot = none := by
  cases hw : (s.chan c).width with
  | none => exact .inl ⟨.notInitialized, nofun, fun l => by simp [prepareGuard, hw]⟩
  | some w =>
    cases hslot : (s.chan c).slot with
    | some b' => exact .inl ⟨.slotOccupied, nofun, fun l => by simp [prepareGuard, hw, hslot]⟩
    | none => exact .inr ⟨w, rfl, rfl⟩

end

/-! ### `prepare`, `start` and `xfer` run whole -/

/-- Steps 1 to 6 of `prepare`, after its guards (R180). -/
def programChannel (c : Chan) (p : BitVec 8) (b : Buffer) (w : Width) (n : BitVec 16) (s : State) : State :=
  fillSlot c b (regWrite c .ier intTrc (regWrite c .tcrr (n.setWidth 32) (regWrite c .marr b.addr
    (regWrite c .psr (p.setWidth 32) (regWrite c .mr ((widthCode w).setWidth 32) s)))))

/-- The two steps of `start` (R182). -/
def startChannel (c : Chan) (s : State) : State := setRunning c (regWrite c .cr crTen s)

section
variable {s : State} {c : Chan} {p : BitVec 8} {b : Buffer} {r : Word}

theorem runMicros_progPrepare_of_fault {st : Status}
    (h : ∀ l, prepareGuard c b r l s = (s, .done (some (respFault st)))) (ms : List Micro) (l : Locals) :
    runMicros (progPrepare c p b r ++ ms) l s = (s, some (respFault st)) := by
  rw [progPrepare, List.cons_append, runMicros_cons, h]

theorem runMicros_progPrepare_of_free {w : Width} (hw : (s.chan c).width = some w) (hslot : (s.chan c).slot = none)
    (ms : List Micro) (l : Locals) : runMicros (progPrepare c p b r ++ ms) l s =
      runMicros ms { l with width := w, count := programmedCount w b.blen r }
        (programChannel c p b w (programmedCount w b.blen r) s) := by
  rw [progPrepare, List.cons_append, runMicros_cons, prepareGuard_of_free hw hslot]
  rfl

theorem exec_start (c : Chan) (s : State) :
    exec (.start c) s = .next ((startChannel c s).logResp ⟨.start c, respOk⟩) := rfl

/-- Where a guard faults, `prepare` and `xfer` answer the fault and change nothing else (R180, R183, R240). -/
theorem exec_of_guard_fault {i : Instr} (hi : i = .prepare c p b r ∨ i = .xfer c p b r)
    (hp : validPid s.params p = true) {st : Status}
    (h : ∀ l, prepareGuard c b r l s = (s, .done (some (respFault st)))) :
    exec i s = .next (s.logResp ⟨i, respFault st⟩) := by
  have hwf : i.wellFormed s.params = true := by obtain rfl | rfl := hi <;> exact hp
  obtain ⟨ms, hprog⟩ := program_of_fills hi
  rw [exec_of_wellFormed hwf, runOp, hprog, runMicros_progPrepare_of_fault h]
  rfl

theorem exec_prepare_of_free (hp : validPid s.params p = true) {w : Width} (hw : (s.chan c).width = some w)
    (hslot : (s.chan c).slot = none) : exec (.prepare c p b r) s =
      .next ((programChannel c p b w (programmedCount w b.blen r) s).logResp ⟨.prepare c p b r, respOk⟩) := by
  have hrun := runMicros_progPrepare_of_free (p := p) (b := b) (r := r) hw hslot [] {}
  rw [List.append_nil] at hrun
  rw [exec_of_wellFormed (i := .prepare c p b r) hp, runOp, program, hrun]
  rfl

theorem exec_xfer_of_free (hp : validPid s.params p = true) {w : Width} (hw : (s.chan c).width = some w)
    (hslot : (s.chan c).slot = none) : exec (.xfer c p b r) s =
      .next ((startChannel c (programChannel c p b w (programmedCount w b.blen r) s)).logResp
        ⟨.xfer c p b r, respOk⟩) := by
  rw [exec_of_wellFormed (i := .xfer c p b r) hp, runOp, program, progXfer, runMicros_progPrepare_of_free hw hslot]
  rfl

end

/-! ### `prepare` and `start` on a clocked block -/

section
variable {s : State} {c : Chan}

theorem programChannel_of_clkOk (hclk : s.clkOk = true) (p : BitVec 8) (b : Buffer) (w : Width) (n : BitVec 16)
    (htcr : (s.chan c).tcr = 0) (htcrr : (s.chan c).tcrr = 0) (himr : (s.chan c).imr = 0) :
    programChannel c p b w n s = s.atChannel c ((s.chan c).prepared w p b n) (s.busLog ++
      [.wr c .mr ((widthCode w).setWidth 32), .wr c .psr (p.setWidth 32), .wr c .marr b.addr,
        .wr c .tcrr (n.setWidth 32), .wr c .ier intTrc]) := by
  calc programChannel c p b w n s
      = programChannel c p b w n (s.atChannel c (s.chan c) s.busLog) := by rw [State.atChannel_self]
    _ = _ := by
      simp only [programChannel, regWrite_atChannel hclk, channelWrite_prepare w p b n htcr htcrr himr,
        fillSlot_atChannel, List.append_assoc]
      rfl

theorem startChannel_atChannel (hclk : s.clkOk = true) {ch : Channel} (hset : ch.settled) (log : List BusEvent) :
    startChannel c (s.atChannel c ch log) = s.atChannel c ch.started (log ++ [.wr c .cr crTen]) := by
  rw [startChannel, regWrite_atChannel hclk, channelWrite_cr_crTen hset, setRunning, State.atChannel_chan,
    State.atChannel_setChan]
  rfl

/-- The edges of `prepare` and of `start`, one after the other (R186). -/
theorem Channel.started_prepared_fsm (ch : Channel) (w : Width) (p : BitVec 8) (b : Buffer) (n : BitVec 16) :
    (ch.prepared w p b n).started.fsm = if ch.fsm = .idle ∨ ch.fsm = .configured then .running else ch.fsm := by
  rw [Channel.started, Channel.prepared]
  cases ch.fsm <;> rfl

end

/-- Settles O27: what is left after the guards is the sequence of steps 1 to 6. -/
theorem prepareProgramsTheChannel : Obligations.PrepareProgramsTheChannel := by
  intro s c p b r w n hclk hp hw hslot htcr htcrr himr hn
  have hcount : programmedCount w b.blen r = n := hn.symm
  rw [exec_prepare_of_free hp hw hslot, hcount, programChannel_of_clkOk hclk p b w n htcr htcrr himr]
  rfl

/-- Settles O30: the start command neither reloads a settled channel nor raises its line. -/
theorem startEnablesTransfer : Obligations.StartEnablesTransfer := by
  intro s c hclk hset
  have hstart := startChannel_atChannel (c := c) hclk hset s.busLog
  rw [State.atChannel_self] at hstart
  rw [exec_start, hstart]
  rfl

/-- Settles O28: the channel that `prepare` leaves is settled, so `start` goes on from it. -/
theorem transferProgramsAndStarts : Obligations.TransferProgramsAndStarts := by
  intro s c p b r w n hclk hp hw hslot htcr htcrr himr hn
  have hcount : programmedCount w b.blen r = n := hn.symm
  have hset : ((s.chan c).prepared w p b n).settled := fun _ => htcrr
  rw [exec_xfer_of_free hp hw hslot, hcount, programChannel_of_clkOk hclk p b w n htcr htcrr himr,
    startChannel_atChannel hclk hset, List.append_assoc, ← Channel.started_prepared_fsm (s.chan c) w p b n]
  rfl

/-! ### `xfer` is `prepare`, then `start` -/

theorem State.afterWriteDraw_logResp (s : State) (e : RespEvent) :
    (s.logResp e).afterWriteDraw = s.afterWriteDraw.logResp e := by
  rw [State.afterWriteDraw, State.afterWriteDraw, State.logResp_clkOk, State.logResp_params]
  split
  · rfl
  · split <;> rfl

theorem regWrite_logResp (c : Chan) (r : Reg) (v : Word) (s : State) (e : RespEvent) :
    regWrite c r v (s.logResp e) = (regWrite c r v s).logResp e := by
  have hlands : (s.logResp e).writeLands = s.writeLands := rfl
  rw [regWrite, regWrite, State.afterWriteDraw_logResp, hlands]
  split <;> rfl

/-- The `start` half does not see the responses so far. -/
theorem startChannel_logResp (c : Chan) (s : State) (e : RespEvent) :
    startChannel c (s.logResp e) = (startChannel c s).logResp e := by
  rw [startChannel, regWrite_logResp]
  rfl

theorem programChannel_respLog (c : Chan) (p : BitVec 8) (b : Buffer) (w : Width) (n : BitVec 16) (s : State) :
    (programChannel c p b w n s).respLog = s.respLog := by
  simp [programChannel, fillSlot]

theorem startChannel_respLog (c : Chan) (s : State) : (startChannel c s).respLog = s.respLog := by
  simp [startChannel, setRunning]

/-- Settles O31: both operations pass or fail the same guards, and then make the same steps. -/
theorem transferIsPrepareThenStart : Obligations.TransferIsPrepareThenStart := by
  intro s c p b r hp
  obtain ⟨st, hst, hfault⟩ | ⟨w, hw, hslot⟩ := prepareGuard_cases c b r s
  · exact ⟨_, _, _, st, exec_of_guard_fault (.inl rfl) hp hfault, exec_start c _,
      exec_of_guard_fault (.inr rfl) hp hfault, rfl, fun _ => rfl, fun hok => absurd hok hst⟩
  · refine ⟨_, _, _, .ok, exec_prepare_of_free hp hw hslot, exec_start c _, exec_xfer_of_free hp hw hslot, ?prepared,
      fun hst => absurd rfl hst, fun _ => ?transferred⟩
    case prepared => rw [State.logResp_respLog, programChannel_respLog]; rfl
    case transferred =>
      rw [startChannel_logResp, State.logResp, startChannel_respLog, programChannel_respLog]
      rfl

/-! ### `transfer_counter` and `abort` -/

/-- Settles O32: the read answers the count, whose 16 bits survive the way through the word. -/
theorem countAnswersRemaining : Obligations.CountAnswersRemaining := by
  intro s c hclk
  have hread : regRead c .tcr s = ((s.chan c).tcr.setWidth 32, s.logBus (.rd c .tcr ((s.chan c).tcr.setWidth 32))) :=
    regRead_clocked c .tcr _ hclk rfl
  have hwidth : (((s.chan c).tcr.setWidth 32).setWidth 16).setWidth 32 = (s.chan c).tcr.setWidth 32 := by simp
  rw [exec_of_wellFormed rfl, runOp, program, progCount, runMicros, hread, hwidth]
  rfl

theorem toIdle_eq_ite (f : Lifecycle) : toIdle f = if f = .configured ∨ f = .running then .idle else f := by
  cases f <;> rfl

/-- Settles O33: masking comes first, so the reload of a queued count sets no pending latch. -/
theorem abortReleasesTheBuffer : Obligations.AbortReleasesTheBuffer := by
  intro s c hclk hset
  have hrun : runMicros (progAbort c) {} s = runMicros (progAbort c) {} (s.atChannel c (s.chan c) s.busLog) := by
    rw [State.atChannel_self]
  rw [exec_of_wellFormed rfl, runOp, program, hrun, progAbort, runMicros_act, runMicros_act, regWrite_atChannel hclk,
    regWrite_atChannel hclk, channelWrite_idr_intAll hset, channelWrite_tcr_zero rfl, runMicros_cons,
    releaseSlot_atChannel, toIdle_eq_ite, List.append_assoc]
  rfl

end Sys2Proof.Machine
end

section
/-! PROOF of the statements of 43_data_mover.md: one element move (O42, O43), a refused access (O44), a mover that may not step
(O46), the last element (O47), the frame of every mover step (O48), and whole transfers (O49, O50).

`MoverReady` collects what R201 asks of a mover; a ready mover's step is `moveAdmitted` where the memory port admits the access
and `refuseMove` where it does not. A transfer iterates `moveAdmitted` (`run_movers`): its invariant `Transferring` holds with
the address up by one element and the count down by one after every move, and each transfer's effect on memory or on `per_log`
is an induction over the elements along it. -/

namespace Sys2Proof.Machine

/-! ### The channel after a move -/

/-- The reload after the count went down by one: it happens at the last element if a count is queued (R200, R202). -/
theorem Channel.normalise_moved (n : Nat) (ch : Channel) :
    Channel.normalise { ch with mar := ch.mar + BitVec.ofNat 32 n, tcr := ch.tcr - 1 } =
      if ch.tcr = 1 ∧ ch.tcrr ≠ 0 then { ch with mar := ch.marr, tcr := ch.tcrr, tcrr := 0 }
      else { ch with mar := ch.mar + BitVec.ofNat 32 n, tcr := ch.tcr - 1 } := by
  have hlast : ch.tcr - 1 = 0 ↔ ch.tcr = 1 := sub_eq_zero
  simp only [Channel.normalise, hlast]

/-- The latch of a channel that was updated with `pend` as before (R221). -/
theorem Channel.latch_of_pend {x y : Channel} (h : y.pend = x.pend) :
    x.latch y = { y with pend := x.pend || (!x.line && y.line) } := by
  rw [Channel.latch, h]

theorem channelMoved_eq (n : Nat) (ch : Channel) {new : Channel}
    (hnew : new = if ch.tcr = 1 ∧ ch.tcrr ≠ 0 then { ch with mar := ch.marr, tcr := ch.tcrr, tcrr := 0 }
      else { ch with mar := ch.mar + BitVec.ofNat 32 n, tcr := ch.tcr - 1 }) :
    channelMoved n ch = { new with pend := ch.pend || (!ch.line && new.line) } := by
  rw [← Channel.normalise_moved] at hnew
  rw [channelMoved, ← hnew, Channel.latch_of_pend (by rw [hnew, Channel.normalise_pend])]

/-- With no count queued a move is address up, count down and the latch. -/
theorem channelMoved_of_unqueued (n : Nat) {ch : Channel} (h : ch.tcrr = 0) : channelMoved n ch =
    ch.latch { ch with mar := ch.mar + BitVec.ofNat 32 n, tcr := ch.tcr - 1 } := by
  rw [channelMoved, Channel.normalise_moved, if_neg fun hlast => hlast.2 h]

/-- Where two channels agree in what no mover step changes: `PSR`, `MARR`, `MR`, `SR.TEN`, `IMR` and the engine side; and
`TCRR` is as before or empty (R206). -/
structure MoverKeeps (before after : Channel) : Prop where
  psr    : after.psr = before.psr
  marr   : after.marr = before.marr
  mr     : after.mr = before.mr
  ten    : after.ten = before.ten
  imr    : after.imr = before.imr
  engine : sameEngine after before
  tcrr   : after.tcrr = before.tcrr ∨ after.tcrr = 0

theorem channelMoved_keeps (n : Nat) (ch : Channel) : MoverKeeps ch (channelMoved n ch) := by
  rw [channelMoved_eq n ch rfl]
  split
  · exact ⟨rfl, rfl, rfl, rfl, rfl, ⟨rfl, rfl, rfl, rfl, rfl⟩, .inr rfl⟩
  · exact ⟨rfl, rfl, rfl, rfl, rfl, ⟨rfl, rfl, rfl, rfl, rfl⟩, .inl rfl⟩

theorem MoverKeeps.refl (ch : Channel) : MoverKeeps ch ch :=
  ⟨rfl, rfl, rfl, rfl, rfl, ⟨rfl, rfl, rfl, rfl, rfl⟩, .inl rfl⟩

theorem channelError_keeps (ch : Channel) : MoverKeeps ch (channelError ch) := { MoverKeeps.refl ch with }

@[simp] theorem channelMoved_terr (n : Nat) (ch : Channel) : (channelMoved n ch).terr = ch.terr :=
  Channel.normalise_terr _

/-! ### Elements and their bytes -/

theorem elemValue_eq_extractLsb' (n : Nat) (v : Word) : elemValue n v = (v.extractLsb' 0 (8 * n)).setWidth 32 := by
  apply BitVec.eq_of_toNat_eq
  simp [elemValue]

/-- The low `n` bytes of a word are those of its `n`-byte element (R64). -/
theorem elemValue_byte {n i : Nat} (h : i < n) (v : Word) :
    (elemValue n v).extractLsb' (8 * i) 8 = v.extractLsb' (8 * i) 8 := by
  rw [elemValue_eq_extractLsb']
  ext j hj
  have hlow : 8 * i + j < 8 * n := by omega
  have hbits : 32 ≤ 8 * i + j → v.getLsbD (8 * i + j) = false := v.getLsbD_of_ge _
  by_cases hword : 8 * i + j < 32 <;> simp_all

/-- Byte `i` of a word, as arithmetic and as a field of bits. -/
theorem ofNat_div_eq_extractLsb' (v : Word) (i : Nat) : BitVec.ofNat 8 (v.toNat / 256 ^ i) = v.extractLsb' (8 * i) 8 := by
  apply BitVec.eq_of_toNat_eq
  rw [BitVec.toNat_ofNat, BitVec.extractLsb'_toNat, Nat.shiftRight_eq_div_pow, Nat.pow_mul]

theorem widthBytes_pos (w : Width) : 0 < widthBytes w := by cases w <;> decide

theorem widthBytes_le (w : Width) : widthBytes w ≤ 4 := by cases w <;> decide

/-- What memory holds after an element was stored: its bytes at the address, every other byte as before (R64). -/
theorem Memory.readByte_store {m : Memory} (h : m.wf = true) (a n : Nat) (v : Word) :
    (∀ i, i < n → (m.writeLE a (elemValue n v).toNat n).readByte (a + i) = v.extractLsb' (8 * i) 8) ∧
    ∀ x, x < a ∨ a + n ≤ x → (m.writeLE a (elemValue n v).toNat n).readByte x = m.readByte x := by
  refine ⟨fun i hi => ?_, fun x hx => ?_⟩
  · rw [Memory.readByte_writeLE n _ _ _ h, if_pos (by omega), Nat.add_sub_cancel_left, ofNat_div_eq_extractLsb',
      elemValue_byte hi]
  · rw [Memory.readByte_writeLE n _ _ _ h, if_neg (by omega)]

/-- The element a TX move reads is the value of the bytes at `MAR` (R64). -/
theorem txElement_toNat (s : State) (c : Chan) {n : Nat} (hn : n ≤ 4) :
    (txElement s c n).toNat = s.mem.readLE (s.chan c).mar.toNat n := by
  have hlt : s.mem.readLE (s.chan c).mar.toNat n < 256 ^ n := s.mem.readLE_lt n _
  have hword : 256 ^ n ≤ 256 ^ 4 := Nat.pow_le_pow_right (by decide) hn
  exact Nat.mod_eq_of_lt (hlt.trans_le hword)

theorem txElement_lt (s : State) (c : Chan) {n : Nat} (hn : n ≤ 4) : (txElement s c n).toNat < 2 ^ (8 * n) := by
  rw [txElement_toNat s c hn, Nat.pow_mul]
  exact s.mem.readLE_lt n _

theorem txElement_byte (s : State) (c : Chan) {n i : Nat} (hn : n ≤ 4) (hi : i < n) :
    (txElement s c n).extractLsb' (8 * i) 8 = s.mem.readByte ((s.chan c).mar.toNat + i) := by
  apply BitVec.eq_of_toNat_eq
  rw [← ofNat_div_eq_extractLsb', BitVec.toNat_ofNat, txElement_toNat s c hn]
  exact s.mem.readLE_byte n _ i hi

/-! ### A mover that may not step, and one that is ready -/

theorem step_mover {s : State} {c : Chan} {ready : Bool} {v : Word} {t : List Input}
    (hin : s.inputs = .mover c ready v :: t) : step s = .next (moverStep c ready v (s.popInput t)) :=
  step_eq_agentStep hin

theorem moverStep_of_disabled {s : State} {c : Chan} {ready : Bool} (v : Word) (h : moverEnabled s c ready = false) :
    moverStep c ready v s = s := by
  rw [moverStep, if_neg (Bool.eq_false_iff.1 h)]

/-- The access a direction makes on the memory port (R202). -/
def accessOf : Direction → Access
  | .rx => .write
  | .tx => .read

/-- The element move where the memory port admits the access (R202). -/
def moveAdmitted (c : Chan) (n : Nat) (d : Direction) (elem : Word) (s : State) : State :=
  match d with
  | .rx => moveRx c n (elemValue n elem) s
  | .tx => moveTx c n s

theorem moveElement_eq (c : Chan) (n : Nat) (d : Direction) (elem : Word) (s : State) : moveElement c n d elem s =
    if admits s.params (accessOf d) (s.chan c).mar n then moveAdmitted c n d elem s else refuseMove c (accessOf d) n s := by
  cases d <;> rfl

/-- R201's conditions on channel `c`, where `MR` selects the width `w` and `PSR` the peripheral `e`. -/
structure MoverReady (s : State) (c : Chan) (w : Width) (e : Periph) : Prop where
  clocked : s.clkOk = true
  enabled : (s.chan c).ten = true
  counted : (s.chan c).tcr ≠ 0
  healthy : (s.chan c).terr = false
  mode    : modeWidth (s.chan c).mr = some w
  periph  : periphOf s.params (s.chan c).psr = some e

/-- An admitted move in either direction leaves channel `c` as `channelMoved` makes it, and every other as it was. -/
theorem moveAdmitted_chan (c d : Chan) (n : Nat) (dir : Direction) (v : Word) (s : State) :
    (moveAdmitted c n dir v s).chan d = (s.setChan c (channelMoved n (s.chan c))).chan d := by
  cases dir <;> rfl

theorem moveAdmitted_chan_same (c : Chan) (n : Nat) (dir : Direction) (v : Word) (s : State) :
    (moveAdmitted c n dir v s).chan c = channelMoved n (s.chan c) := by
  rw [moveAdmitted_chan, State.setChan_chan_same]

theorem moveAdmitted_chan_other {c d : Chan} (h : d ≠ c) (n : Nat) (dir : Direction) (v : Word) (s : State) :
    (moveAdmitted c n dir v s).chan d = s.chan d := by
  rw [moveAdmitted_chan, State.setChan_chan_other _ _ _ _ h]

theorem moveAdmitted_inputs (c : Chan) (n : Nat) (dir : Direction) (v : Word) (s : State) :
    (moveAdmitted c n dir v s).inputs = s.inputs := by
  cases dir <;> rfl

theorem moveAdmitted_popInput (c : Chan) (n : Nat) (dir : Direction) (v : Word) (s : State) (t : List Input) :
    (moveAdmitted c n dir v s).popInput t = moveAdmitted c n dir v (s.popInput t) := by
  cases dir <;> rfl

section
variable {s : State} {c : Chan} {w : Width} {e : Periph} {v : Word} {t : List Input}

theorem MoverReady.moverStep_eq (h : MoverReady s c w e) (v : Word) :
    moverStep c true v s = moveElement c (widthBytes w) e.dir v s := by
  obtain ⟨hclk, hten, htcr, hterr, hmode, hperiph⟩ := h
  have hcount : ((s.chan c).tcr != 0) = true := bne_iff_ne.2 htcr
  have henabled : moverEnabled s c true = true := by
    rw [moverEnabled, validPid, hclk, hten, hcount, hterr, hmode, hperiph]
    rfl
  simp [moverStep, henabled, pidDir, hmode, hperiph]

theorem MoverReady.step_admitted (h : MoverReady s c w e) (hin : s.inputs = .mover c true v :: t)
    (hadm : admits s.params (accessOf e.dir) (s.chan c).mar (widthBytes w) = true) :
    step s = .next (moveAdmitted c (widthBytes w) e.dir v (s.popInput t)) := by
  have hpop : MoverReady (s.popInput t) c w e := { h with }
  rw [step_mover hin, hpop.moverStep_eq, moveElement_eq]
  exact congrArg _ (if_pos hadm)

theorem MoverReady.step_refused (h : MoverReady s c w e) (hin : s.inputs = .mover c true v :: t)
    (hadm : admits s.params (accessOf e.dir) (s.chan c).mar (widthBytes w) = false) :
    step s = .next (refuseMove c (accessOf e.dir) (widthBytes w) (s.popInput t)) := by
  have hpop : MoverReady (s.popInput t) c w e := { h with }
  rw [step_mover hin, hpop.moverStep_eq, moveElement_eq]
  exact congrArg _ (if_neg (Bool.eq_false_iff.1 hadm))

end

/-! ### One element -/

/-- Settles O42: an admitted RX move is one store, the channel's update and two log entries. -/
theorem receiveMovesOneElement : Obligations.ReceiveMovesOneElement := by
  intro s c v t w e new hwf hin hclk hten htcr hterr hmode hperiph hdir hadm hnew
  have hready : MoverReady s c w e := ⟨hclk, hten, htcr, hterr, hmode, hperiph⟩
  obtain ⟨hbytes, hrest⟩ := Memory.readByte_store hwf (s.chan c).mar.toNat (widthBytes w) v
  refine ⟨_, ?_, hbytes, hrest⟩
  rw [hready.step_admitted hin (by rw [hdir]; exact hadm), hdir, moveAdmitted, moveRx, State.popInput_chan,
    channelMoved_eq _ _ hnew, ← elemValue_eq_extractLsb']
  rfl

/-- Settles O43: the element pushed is the one memory holds at `MAR`. -/
theorem transmitMovesOneElement : Obligations.TransmitMovesOneElement := by
  intro s c v t w e new hin hclk hten htcr hterr hmode hperiph hdir hadm hnew
  have hready : MoverReady s c w e := ⟨hclk, hten, htcr, hterr, hmode, hperiph⟩
  have hbytes : widthBytes w ≤ 4 := widthBytes_le w
  refine ⟨txElement s c (widthBytes w), txElement_lt s c hbytes, fun i hi => txElement_byte s c hbytes hi, ?_⟩
  rw [hready.step_admitted hin (by rw [hdir]; exact hadm), hdir, moveAdmitted, moveTx, State.popInput_chan,
    channelMoved_eq _ _ hnew]
  rfl

/-- Settles O44: a ready mover whose access is refused only latches the error. -/
theorem refusedAccessLatchesError : Obligations.RefusedAccessLatchesError := by
  intro s c v t w e k new hin hclk hten htcr hterr hmode hperiph hk hadm hnew
  have hready : MoverReady s c w e := ⟨hclk, hten, htcr, hterr, hmode, hperiph⟩
  have haccess : k = accessOf e.dir := by rw [hk]; cases e.dir <;> rfl
  subst hnew haccess
  rw [hready.step_refused hin hadm]
  rfl

/-- Settles O46: each of R201's conditions is a factor of `moverEnabled`. -/
theorem disabledMoverDoesNothing : Obligations.DisabledMoverDoesNothing := by
  intro s c ready v t hin hfail
  have hdisabled : moverEnabled (s.popInput t) c ready = false := by
    obtain h | h | h | h | h | h := hfail <;> simp [moverEnabled, h]
  rw [step_mover hin, moverStep_of_disabled v hdisabled]
  rfl

/-! ### The last element -/

theorem Channel.isr_of_running {ch : Channel} (htcr : ch.tcr ≠ 0) (htcrr : ch.tcrr = 0) (hterr : ch.terr = false) :
    ch.isr = 0b001 := by
  have hcount : (ch.tcr == 0) = false := beq_eq_false_iff_ne.2 htcr
  rw [Channel.isr, hcount, htcrr, hterr]
  rfl

theorem Channel.isr_of_complete {ch : Channel} (htcr : ch.tcr = 0) (htcrr : ch.tcrr = 0) (hterr : ch.terr = false) :
    ch.isr = 0b011 := by
  rw [Channel.isr, htcr, htcrr, hterr]
  rfl

section
variable {ch : Channel} (hmask : ch.maskLegal)
include hmask

/-- Of the sources only `TRC` can be unmasked, so a channel that is still counting has its line low (R220, INV7). -/
theorem Channel.line_of_running (hisr : ch.isr = 0b001) : ch.line = false := by
  obtain h | h := hmask <;> simp [Channel.line, h, hisr]

theorem Channel.line_of_complete (hisr : ch.isr = 0b011) : ch.line = decide (ch.imr = 0b010) := by
  obtain h | h := hmask <;> simp [Channel.line, h, hisr]

end

/-- The last element with no count queued (R203). -/
theorem channelMoved_last (n : Nat) {ch : Channel} (htcr : ch.tcr = 1) (htcrr : ch.tcrr = 0) (hterr : ch.terr = false)
    (hmask : ch.maskLegal) : channelMoved n ch =
      { ch with mar := ch.mar + BitVec.ofNat 32 n, tcr := 0, pend := ch.pend || decide (ch.imr = 0b010) } := by
  have hlow : ch.line = false :=
    Channel.line_of_running hmask (Channel.isr_of_running (by rw [htcr]; decide) htcrr hterr)
  have hafter : Channel.line { ch with mar := ch.mar + BitVec.ofNat 32 n, tcr := 0 } = decide (ch.imr = 0b010) :=
    Channel.line_of_complete hmask (Channel.isr_of_complete rfl htcrr hterr)
  have hcount : ch.tcr - 1 = 0 := by rw [htcr]; rfl
  rw [channelMoved_of_unqueued n htcrr, hcount, Channel.latch, hafter, hlow]
  rfl

/-- Settles O47: both directions leave the channel as `channelMoved` makes it. -/
theorem lastElementCompletes : Obligations.LastElementCompletes := by
  intro s c v t w e hin hclk hten htcr htcrr hterr hmode hperiph hrx htx hmask
  have hne : (s.chan c).tcr ≠ 0 := by rw [htcr]; decide
  have hready : MoverReady s c w e := ⟨hclk, hten, hne, hterr, hmode, hperiph⟩
  have hadm : admits s.params (accessOf e.dir) (s.chan c).mar (widthBytes w) = true := by
    cases hdir : e.dir
    · exact hrx hdir
    · exact htx hdir
  refine ⟨_, hready.step_admitted hin hadm, ?_⟩
  rw [moveAdmitted_chan_same, State.popInput_chan, channelMoved_last _ htcr htcrr hterr hmask]
  have hisr : ∀ (a : Word) (p : Bool), Channel.isr { s.chan c with mar := a, tcr := 0, pend := p } = 0b011 :=
    fun _ _ => Channel.isr_of_complete rfl htcrr hterr
  exact ⟨rfl, htcrr, hisr _ _, rfl, hten, rfl, rfl, Channel.line_of_complete hmask (hisr _ _), rfl⟩

/-! ### The frame of a mover's step -/

/-- What any mover step leaves: one channel within `MoverKeeps`, at most one entry more in each of the mover's logs, and memory
as before outside the current element (R206). -/
theorem moverStep_frame {s : State} (hwf : s.mem.wf = true) (c : Chan) (ready : Bool) (v : Word) :
    ∃ ch m memLog perLog,
      moverStep c ready v s = { s.setChan c ch with mem := m, memLog := memLog, perLog := perLog } ∧
      MoverKeeps (s.chan c) ch ∧
      (memLog = s.memLog ∨ ∃ e, e.chan = c ∧ memLog = s.memLog ++ [e]) ∧
      (perLog = s.perLog ∨ ∃ e, perLog = s.perLog ++ [e]) ∧
      ∀ a, (∀ w, modeWidth (s.chan c).mr = some w →
          a < (s.chan c).mar.toNat ∨ (s.chan c).mar.toNat + widthBytes w ≤ a) →
        Memory.readByte m a = s.mem.readByte a := by
  obtain h | ⟨w, d, -, hmode, -, h⟩ := moverStep_cases c ready v s
  · have hself : s = { s.setChan c (s.chan c) with mem := s.mem, memLog := s.memLog, perLog := s.perLog } :=
      (State.setChan_chan_self s c).symm
    exact ⟨_, _, _, _, h.trans hself, MoverKeeps.refl _, .inl rfl, .inl rfl, fun _ _ => rfl⟩
  · have hkeeps : MoverKeeps (s.chan c) (channelMoved (widthBytes w) (s.chan c)) := channelMoved_keeps _ _
    obtain ⟨-, -, e⟩ | ⟨-, -, e⟩ | ⟨k, -, e⟩ := moveElement_cases c (widthBytes w) d v s
    · exact ⟨_, _, _, _, h.trans e, hkeeps, .inr ⟨_, rfl, rfl⟩, .inr ⟨_, rfl⟩,
        fun a ha => (Memory.readByte_store hwf _ _ _).2 a (ha w hmode)⟩
    · exact ⟨_, _, _, _, h.trans e, hkeeps, .inr ⟨_, rfl, rfl⟩, .inr ⟨_, rfl⟩, fun _ _ => rfl⟩
    · exact ⟨_, _, _, _, h.trans e, channelError_keeps _, .inr ⟨_, rfl, rfl⟩, .inl rfl, fun _ _ => rfl⟩

/-- Settles O48, from the frame of the mover's step with the input off the tape. -/
theorem moverTouchesOnlyItsElement : Obligations.MoverTouchesOnlyItsElement := by
  intro s u c ready v t hwf hin hstep
  obtain ⟨ch, m, memLog, perLog, hmove, hkeeps, hmemLog, hperLog, hmem⟩ :=
    moverStep_frame (s := s.popInput t) hwf c ready v
  rw [step_mover hin, hmove] at hstep
  cases hstep
  have hchan : ∀ d, State.chan { (s.popInput t).setChan c ch with mem := m, memLog := memLog, perLog := perLog } d =
      if d = c then ch else s.chan d := fun d => State.setChan_chan (s.popInput t) c d ch
  rw [hchan, if_pos rfl]
  exact ⟨hkeeps.psr, hkeeps.marr, hkeeps.mr, hkeeps.ten, hkeeps.imr, hkeeps.engine, hkeeps.tcrr,
    fun d hd => (hchan d).trans (if_neg hd), rfl, rfl, rfl, rfl, rfl, rfl, rfl, rfl, rfl, rfl, rfl, rfl, rfl, rfl,
    hmemLog, hperLog, hmem⟩

/-! ### Whole transfers -/

/-- A transfer in progress on channel `c`: `left` elements of width `w` are still to be moved to or from address `a`, all of
them admitted, and no further count is queued. -/
structure Transferring (s : State) (c : Chan) (w : Width) (e : Periph) (a left : Nat) : Prop where
  clocked  : s.clkOk = true
  enabled  : (s.chan c).ten = true
  healthy  : (s.chan c).terr = false
  mode     : modeWidth (s.chan c).mr = some w
  periph   : periphOf s.params (s.chan c).psr = some e
  count    : (s.chan c).tcr.toNat = left
  unqueued : (s.chan c).tcrr = 0
  address  : (s.chan c).mar = BitVec.ofNat 32 a
  fits     : a + left * widthBytes w ≤ 2 ^ 32
  admitted : ∀ k, k < left →
    admits s.params (accessOf e.dir) (BitVec.ofNat 32 (a + k * widthBytes w)) (widthBytes w) = true

/-- The states an admitted transfer passes through: one move per element, in order. -/
def moveAll (c : Chan) (n : Nat) (d : Direction) : List Word → State → State
  | [], s => s
  | v :: vs, s => moveAll c n d vs (moveAdmitted c n d v s)

section
variable {s : State} {c : Chan} {w : Width} {e : Periph} {a left : Nat}

theorem Transferring.popInput (h : Transferring s c w e a left) (t : List Input) :
    Transferring (s.popInput t) c w e a left := { h with }

theorem Transferring.ready (h : Transferring s c w e a (left + 1)) : MoverReady s c w e := by
  refine { h with counted := fun h0 => ?_ }
  have hcount := h.count
  rw [h0] at hcount
  exact absurd hcount (Nat.succ_ne_zero left).symm

theorem Transferring.head_admitted (h : Transferring s c w e a (left + 1)) :
    admits s.params (accessOf e.dir) (s.chan c).mar (widthBytes w) = true := by
  have hfirst := h.admitted 0 (Nat.succ_pos left)
  rwa [Nat.zero_mul, Nat.add_zero, ← h.address] at hfirst

/-- While an element is left, the address has not wrapped (R276). -/
theorem Transferring.mar_toNat (h : Transferring s c w e a (left + 1)) : (s.chan c).mar.toNat = a := by
  have hfits := h.fits
  have hpos := widthBytes_pos w
  rw [Nat.succ_mul] at hfits
  rw [h.address, BitVec.toNat_ofNat, Nat.mod_eq_of_lt (by omega)]

/-- One move takes a transfer to its next element (R202). -/
theorem Transferring.next (h : Transferring s c w e a (left + 1)) (v : Word) :
    Transferring (moveAdmitted c (widthBytes w) e.dir v s) c w e (a + widthBytes w) left := by
  have hparams : (moveAdmitted c (widthBytes w) e.dir v s).params = s.params := by cases e.dir <;> rfl
  have hclk : (moveAdmitted c (widthBytes w) e.dir v s).clkOk = s.clkOk := by cases e.dir <;> rfl
  have hkeeps : MoverKeeps (s.chan c) (channelMoved (widthBytes w) (s.chan c)) := channelMoved_keeps _ _
  have hmoved := channelMoved_of_unqueued (widthBytes w) h.unqueued
  have hcount := h.count
  have hfits := h.fits
  have hnext : ∀ k, a + widthBytes w + k * widthBytes w = a + (k + 1) * widthBytes w := fun k => by
    rw [Nat.succ_mul]; omega
  have hchan := moveAdmitted_chan_same c (widthBytes w) e.dir v s
  constructor
  case clocked => rw [hclk, h.clocked]
  case enabled => rw [hchan, hkeeps.ten, h.enabled]
  case healthy => rw [hchan, channelMoved_terr, h.healthy]
  case mode => rw [hchan, hkeeps.mr, h.mode]
  case periph => rw [hchan, hparams, hkeeps.psr, h.periph]
  case count =>
    rw [hchan, hmoved, Channel.latch_tcr]
    bv_omega
  case unqueued => rw [hchan, hmoved, Channel.latch_tcrr, h.unqueued]
  case address => rw [hchan, hmoved, Channel.latch_mar, h.address, BitVec.ofNat_add]
  case fits => rwa [hnext]
  case admitted =>
    intro k hk
    rw [hparams, hnext]
    exact h.admitted (k + 1) (Nat.succ_lt_succ hk)

theorem Transferring.finish {vs : List Word} : ∀ {s a}, Transferring s c w e a vs.length →
    Transferring (moveAll c (widthBytes w) e.dir vs s) c w e (a + vs.length * widthBytes w) 0 := by
  induction vs with
  | nil => intro s a h; simpa [moveAll] using h
  | cons v vs ih =>
    intro s a h
    have hlength : a + (v :: vs).length * widthBytes w = a + widthBytes w + vs.length * widthBytes w := by
      rw [List.length_cons, Nat.succ_mul]; omega
    rw [hlength]
    exact ih (h.next v)

/-- The moves of a transfer, one step each, are the run of the machine (R208). -/
theorem run_movers (t : List Input) {vs : List Word} : ∀ {s a}, Transferring s c w e a vs.length →
    s.inputs = vs.map (fun v => Input.mover c true v) ++ t →
    Host.Core.run Sys2Proof.core vs.length s = .next (moveAll c (widthBytes w) e.dir vs (s.popInput t)) := by
  induction vs with
  | nil => intro s a _ hin; rw [← show s.inputs = t from hin]; rfl
  | cons v vs ih =>
    intro s a h hin
    rw [List.map_cons, List.cons_append] at hin
    have hstep := h.ready.step_admitted hin h.head_admitted
    have hrest := ih ((h.popInput _).next v) (moveAdmitted_inputs ..)
    rw [moveAdmitted_popInput] at hrest
    exact (run_succ_of_step vs.length hstep).trans hrest

theorem moveAll_chan_other {d : Chan} (hd : d ≠ c) (n : Nat) (dir : Direction) (vs : List Word) :
    ∀ s, (moveAll c n dir vs s).chan d = s.chan d := by
  induction vs with
  | nil => intro s; rfl
  | cons v vs ih => intro s; exact (ih _).trans (moveAdmitted_chan_other hd n dir v s)

theorem moveAll_inputs (n : Nat) (dir : Direction) (vs : List Word) :
    ∀ s, (moveAll c n dir vs s).inputs = s.inputs := by
  induction vs with
  | nil => intro s; rfl
  | cons v vs ih => intro s; exact (ih _).trans (moveAdmitted_inputs ..)

/-- The state a transfer ends in (R203, R208). -/
theorem Transferring.run {vs : List Word} (h : Transferring s c w e a vs.length) {t : List Input}
    (hin : s.inputs = vs.map (fun v => Input.mover c true v) ++ t) :
    ∃ u, u = moveAll c (widthBytes w) e.dir vs (s.popInput t) ∧
      Host.Core.run Sys2Proof.core vs.length s = .next u ∧ u.inputs = t ∧ (u.chan c).tcr = 0 ∧
      (u.chan c).mar = (s.chan c).mar + BitVec.ofNat 32 (vs.length * widthBytes w) ∧ ∀ d, d ≠ c → u.chan d = s.chan d := by
  have hend := (h.popInput t).finish
  refine ⟨_, rfl, run_movers t h hin, moveAll_inputs .., BitVec.eq_of_toNat_eq hend.count, ?_,
    fun d hd => moveAll_chan_other hd ..⟩
  rw [hend.address, h.address, BitVec.ofNat_add]

/-- What an RX transfer leaves in memory: element after element in the order they were popped, and nothing else (R208). -/
theorem moveAll_rx_mem (hdir : e.dir = .rx) {vs : List Word} : ∀ {s a}, Transferring s c w e a vs.length → s.mem.wf = true →
    (∀ k (hk : k < vs.length) i, i < widthBytes w →
      (moveAll c (widthBytes w) .rx vs s).mem.readByte (a + k * widthBytes w + i) =
        (vs[k]'hk).extractLsb' (8 * i) 8) ∧
    ∀ x, x < a ∨ a + vs.length * widthBytes w ≤ x →
      (moveAll c (widthBytes w) .rx vs s).mem.readByte x = s.mem.readByte x := by
  induction vs with
  | nil => exact fun _ _ => ⟨fun k hk => absurd hk (Nat.not_lt_zero k), fun _ _ => rfl⟩
  | cons v vs ih =>
    intro s a h hwf
    have hmem : (moveAdmitted c (widthBytes w) .rx v s).mem =
        s.mem.writeLE a (elemValue (widthBytes w) v).toNat (widthBytes w) := by
      rw [← h.mar_toNat]
      rfl
    have hrest : Transferring (moveAdmitted c (widthBytes w) .rx v s) c w e (a + widthBytes w) vs.length :=
      hdir ▸ h.next v
    obtain ⟨hfirst, hkept⟩ := Memory.readByte_store hwf a (widthBytes w) v
    obtain ⟨hlater, houtside⟩ := ih hrest (by rw [hmem]; exact Memory.wf_writeLE _ _ _ hwf)
    rw [hmem] at houtside
    refine ⟨fun k hk i hi => ?_, fun x hx => ?_⟩
    · cases k with
      | zero =>
        rw [Nat.zero_mul, Nat.add_zero]
        exact (houtside _ (by omega)).trans (hfirst i hi)
      | succ k =>
        have haddr : a + (k + 1) * widthBytes w + i = a + widthBytes w + k * widthBytes w + i := by
          rw [Nat.succ_mul]; omega
        rw [haddr]
        exact hlater k (Nat.lt_of_succ_lt_succ hk) i hi
    · rw [List.length_cons, Nat.succ_mul] at hx
      exact (houtside x (by omega)).trans (hkept x (by omega))

/-- A TX transfer leaves memory and pushes its elements in address order (R208). -/
theorem moveAll_tx (hdir : e.dir = .tx) {vs : List Word} : ∀ {s a}, Transferring s c w e a vs.length →
    (moveAll c (widthBytes w) .tx vs s).mem = s.mem ∧
    (moveAll c (widthBytes w) .tx vs s).perLog = s.perLog ++ (List.range vs.length).map fun k =>
      .push (s.chan c).psr (widthBytes w)
        (BitVec.ofNat 32 (s.mem.readLE (a + k * widthBytes w) (widthBytes w))) := by
  induction vs with
  | nil => exact fun _ => ⟨rfl, (List.append_nil _).symm⟩
  | cons v vs ih =>
    intro s a h
    have hrest : Transferring (moveAdmitted c (widthBytes w) .tx v s) c w e (a + widthBytes w) vs.length :=
      hdir ▸ h.next v
    have hpsr : ((moveAdmitted c (widthBytes w) .tx v s).chan c).psr = (s.chan c).psr := by
      rw [moveAdmitted_chan_same, (channelMoved_keeps _ _).psr]
    have hmem : (moveAdmitted c (widthBytes w) .tx v s).mem = s.mem := rfl
    have hpushed : (moveAdmitted c (widthBytes w) .tx v s).perLog = s.perLog ++
        [.push (s.chan c).psr (widthBytes w) (BitVec.ofNat 32 (s.mem.readLE a (widthBytes w)))] := by
      rw [← h.mar_toNat]
      rfl
    have haddr : ∀ k, a + (k + 1) * widthBytes w = a + widthBytes w + k * widthBytes w := fun k => by
      rw [Nat.succ_mul]; omega
    obtain ⟨hkept, hlog⟩ := ih hrest
    refine ⟨hkept, hlog.trans ?_⟩
    rw [hpushed, hpsr, hmem, List.length_cons, List.range_succ_eq_map, List.map_cons, List.map_map, Nat.zero_mul,
      List.append_assoc]
    simp [Function.comp_def, haddr]

/-- The premises the two transfer statements share are those of a transfer from `MAR` on. -/
theorem transferring_of_mar {acc : Access} (hacc : acc = accessOf e.dir) (hclk : s.clkOk = true)
    (hten : (s.chan c).ten = true) (hterr : (s.chan c).terr = false) (hcount : (s.chan c).tcr.toNat = left)
    (htcrr : (s.chan c).tcrr = 0) (hmode : modeWidth (s.chan c).mr = some w)
    (hperiph : periphOf s.params (s.chan c).psr = some e) (hfits : (s.chan c).mar.toNat + left * widthBytes w ≤ 2 ^ 32)
    (hadm : ∀ k, k < left →
      admits s.params acc ((s.chan c).mar + BitVec.ofNat 32 (k * widthBytes w)) (widthBytes w) = true) :
    Transferring s c w e (s.chan c).mar.toNat left := by
  have hmar : (s.chan c).mar = BitVec.ofNat 32 (s.chan c).mar.toNat := by
    rw [BitVec.ofNat_toNat, BitVec.setWidth_eq]
  refine ⟨hclk, hten, hterr, hmode, hperiph, hcount, htcrr, hmar, hfits, fun k hk => ?_⟩
  rw [BitVec.ofNat_add, ← hmar, ← hacc]
  exact hadm k hk

end

/-- Settles O49: the run is `moveAll`, whose effect on memory is `moveAll_rx_mem`. -/
theorem receiveTransferFillsTheBuffer : Obligations.ReceiveTransferFillsTheBuffer := by
  intro s c vs t w e hwf hin hclk hten hterr hcount htcrr hmode hperiph hdir hfits hadm
  have h := transferring_of_mar (by rw [hdir]; rfl) hclk hten hterr hcount htcrr hmode hperiph hfits hadm
  obtain ⟨u, hu, hrun, hinputs, htcr, hmar, hother⟩ := h.run hin
  rw [hdir] at hu
  obtain ⟨hbytes, houtside⟩ := moveAll_rx_mem hdir (h.popInput t) hwf
  rw [← hu] at hbytes houtside
  exact ⟨u, hrun, hinputs, htcr, hmar, hother, hbytes, houtside⟩

/-- Settles O50: the run is `moveAll`, whose pushes are those of `moveAll_tx`. -/
theorem transmitTransferPushesTheBuffer : Obligations.TransmitTransferPushesTheBuffer := by
  intro s c vs t w e hin hclk hten hterr hcount htcrr hmode hperiph hdir hfits hadm
  have h := transferring_of_mar (by rw [hdir]; rfl) hclk hten hterr hcount htcrr hmode hperiph hfits hadm
  obtain ⟨u, hu, hrun, hinputs, htcr, hmar, hother⟩ := h.run hin
  rw [hdir] at hu
  obtain ⟨hmem, hpushed⟩ := moveAll_tx hdir (h.popInput t)
  rw [← hu] at hmem hpushed
  exact ⟨u, hrun, hinputs, hmem, htcr, hmar, hother, hpushed⟩

end Sys2Proof.Machine
end

section
/-! PROOF of the statements of 44_interrupt_completion.md: the handler run whole (O35), its dispatch and its return (O36, O37),
handlers do not nest (O38), a dispatched handler run micro-step by micro-step (O39), the pending latch (O40), and the
receiver's reaction (O41).

The handler's first three micro-steps mask the channel, take it to `Idle` and read `PSR` back, whatever comes of the completion
(`runMicros_progIrq`). They do not see the handler's position, so `interrupt` after `interrupt` computes what
`runMicros` computes (`run_interrupts`), and O39 is O35 between a dispatch and a return. The pending latch follows one equation,
`Channel.PendLatches`, which every effect of a micro-step and every mover's step meets; only a dispatch breaks it. -/

namespace Sys2Proof.Machine

/-! ### Dispatch, return and reaction -/

section
variable {s : State} {c : Chan} {q : Request} {i : Instr}

theorem dispatchEnabled_iff : dispatchEnabled s c = true ↔ s.active = none ∧ (s.chan c).pend = true := by
  simp [dispatchEnabled]

theorem dispatchStep_of_enabled (h : dispatchEnabled s c = true) : dispatchStep c s = takeInterrupt c s := if_pos h

theorem dispatchStep_of_not_enabled (h : ¬ dispatchEnabled s c = true) : dispatchStep c s = s := if_neg h

theorem interruptStep_of_returning (hactive : s.active = some c) (hI : s.ctxI = .returning) :
    interruptStep s = returnFromInterrupt s := by
  rw [interruptStep, hactive, hI]

/-- Behind a `transfer_done` in the interrupt context the receiver may issue any operation but `irq` (R229). -/
theorem reactStep_of_active {f : Frame} (hactive : s.active = some c) (hI : s.ctxI = .running f none)
    (hemitted : f.loc.emitted = true) (hdec : decode s.params q = .ok i) :
    ((∀ d, i ≠ .irq d) → reactStep q s = .next { s with ctxI := .running f (some (Frame.start i)) }) ∧
      ∀ d, i = .irq d → reactStep q s = .fault .irqInReaction := by
  have hrun : runningContext s = .running f none := by rw [runningContext, hactive, Option.isSome_some, if_pos rfl, hI]
  refine ⟨fun hi => ?_, fun d hd => ?_⟩
  · cases i with
    | irq d => exact absurd rfl (hi d)
    | _ => simp [reactStep, hrun, hemitted, hdec, setRunningContext, hactive]
  · subst hd
    simp [reactStep, hrun, hemitted, hdec]

end

/-- Settles O36: the two cases are those of `dispatchEnabled`. -/
theorem dispatchStartsTheHandler : Obligations.DispatchStartsTheHandler := by
  intro s c t hin
  have hstep : step s = .next (dispatchStep c (s.popInput t)) := step_eq_agentStep hin
  rw [hstep]
  refine ⟨fun hactive hpend => ?enabled, fun h => ?notEnabled⟩
  case enabled =>
    have henabled : dispatchEnabled (s.popInput t) c = true := dispatchEnabled_iff.2 ⟨hactive, hpend⟩
    rw [dispatchStep_of_enabled henabled]
    rfl
  case notEnabled =>
    have hdisabled : ¬ dispatchEnabled (s.popInput t) c = true := fun henabled => by
      obtain ⟨hactive, hpend⟩ := dispatchEnabled_iff.1 henabled
      exact h.elim (· hactive) fun hlow => nomatch hlow.symm.trans hpend
    rw [dispatchStep_of_not_enabled hdisabled]
    rfl

/-- Settles O37: at `returning` the interrupt context's step is the return. -/
theorem returnFromHandler : Obligations.ReturnFromHandler := by
  intro s c t hin hactive hI
  rw [step_eq_agentStep hin, agentStep, interruptStep_of_returning (s := s.popInput t) hactive hI]
  rfl

/-- Settles O41: with a handler active the running context is the interrupt context. -/
theorem reactionEntersInterruptContext : Obligations.ReactionEntersInterruptContext := by
  intro s c f q i t hin hactive hI hemitted hdec
  rw [step_eq_agentStep hin]
  exact reactStep_of_active (s := s.popInput t) hactive hI hemitted hdec

/-! ### Handlers do not nest -/

section
variable {s t : State} {c : Chan}

/-- The interrupt context's step leaves the normal context, and ends the active handler only by its return (R225, R250). -/
theorem interruptStep_keeps (hactive : s.active = some c) : (interruptStep s).ctxN = s.ctxN ∧
    ((interruptStep s).active = some c ∨ (interruptStep s).active = none ∧ s.ctxI = .returning) := by
  obtain ⟨hnone, -⟩ | ⟨hI, e⟩ | ⟨-, -, e⟩ := interruptStep_cases s
  · exact nomatch hnone.symm.trans hactive
  · rw [e]; exact ⟨rfl, .inr ⟨rfl, hI⟩⟩
  · rw [e]
    obtain ⟨h, -⟩ | ⟨f, -, h⟩ := stepContext_effect .returning s.ctxI s
    · rw [h]; exact ⟨rfl, .inl hactive⟩
    · obtain ⟨⟨-, -, hN, -⟩, -⟩ := h.outside
      exact ⟨hN, .inl (h.active.trans hactive)⟩

theorem normalReady_of_active (hactive : s.active = some c) : normalReady s = false := by
  rw [normalReady, hactive]; rfl

/-- While a handler is active, every agent but the reset event leaves the normal context where it is, and only the handler's
return ends the handler (R222, R253). -/
theorem agentStep_of_active {x : Input} (hactive : s.active = some c) (hx : x ≠ .reset) (h : agentStep x s = .next t) :
    t.ctxN = s.ctxN ∧ (t.active = some c ∨ t.active = none ∧ s.ctxI = .returning) := by
  cases x with
  | command q => rw [agentStep, runCommand, normalReady_of_active hactive] at h; cases h
  | accept q => rw [agentStep, acceptCommand, normalReady_of_active hactive] at h; cases h
  | normal =>
    rw [agentStep, normalStep, hactive] at h
    cases h
    exact ⟨rfl, .inl hactive⟩
  | dispatch d =>
    have hdisabled : ¬ dispatchEnabled s d = true := fun henabled =>
      nomatch (dispatchEnabled_iff.1 henabled).1.symm.trans hactive
    rw [agentStep, dispatchStep_of_not_enabled hdisabled] at h
    cases h
    exact ⟨rfl, .inl hactive⟩
  | interrupt => cases h; exact interruptStep_keeps hactive
  | mover d ready elem =>
    cases h
    have heff := moverStep_effect d ready elem s
    exact ⟨heff.ctxN, .inl (heff.active.trans hactive)⟩
  | react q =>
    obtain ⟨f, i, -, -, rfl⟩ := reactStep_next h
    rw [setRunningContext, if_pos (Option.isSome_of_eq_some hactive)]
    exact ⟨rfl, .inl hactive⟩
  | hostRead a =>
    obtain ⟨e, rfl⟩ := hostLoad_next h
    exact ⟨rfl, .inl hactive⟩
  | hostWrite a b =>
    obtain ⟨e, rfl⟩ := hostStore_next h
    exact ⟨rfl, .inl hactive⟩
  | reset => exact absurd rfl hx

end

/-- Settles O38, agent by agent. -/
theorem handlersDoNotNest : Obligations.HandlersDoNotNest := by
  intro s t c hactive hreset h
  cases hin : s.inputs with
  | nil => rw [step_of_no_input hin] at h; cases h; exact ⟨rfl, .inl hactive⟩
  | cons x rest =>
    rw [step_eq_agentStep hin] at h
    rw [hin, List.head?_cons] at hreset
    exact agentStep_of_active (s := s.popInput rest) hactive (fun hx => hreset (congrArg some hx)) h

/-! ### The pending latch -/

/-- `pend` of a channel before and after a step: set where the line rises, kept otherwise (R221). -/
def Channel.PendLatches (x y : Channel) : Prop := y.pend = (x.pend || (!x.line && y.line))

section
variable {x y : Channel} {s t : State} {c : Chan}

theorem Channel.pendLatches_of_eq (hpend : y.pend = x.pend) (hline : y.line = x.line) : x.PendLatches y := by
  rw [Channel.PendLatches, hpend, hline, Bool.not_and_self, Bool.or_false]

theorem Channel.PendLatches.refl (x : Channel) : x.PendLatches x := Channel.pendLatches_of_eq rfl rfl

theorem Channel.latch_pendLatches (h : y.pend = x.pend) : x.PendLatches (x.latch y) :=
  congrArg (· || (!x.line && y.line)) h

/-- Register writes latch the line's edge; no update of the engine side touches the line (R120, R221). -/
theorem ChannelEffect.pendLatches {i : Instr} (h : ChannelEffect i x y) : x.PendLatches y := by
  induction h with
  | write hw x => exact channelWrite_pend _ _ x
  | ofPrepare _ ih | ofStart _ _ _ _ ih => exact ih
  | _ => exact Channel.pendLatches_of_eq rfl rfl

theorem MicroEffect.pendLatches {i : Instr} (h : MicroEffect i s t) (c : Chan) : (s.chan c).PendLatches (t.chan c) := by
  by_cases hc : c = instrChan i
  · subst hc; exact h.own.pendLatches
  · rw [h.other c hc]; exact .refl _

theorem MoverEffect.pendLatches (h : MoverEffect s t) (c : Chan) : (s.chan c).PendLatches (t.chan c) := by
  obtain e | ⟨n, e⟩ | e := h.chan c <;> rw [e]
  · exact .refl _
  · exact Channel.latch_pendLatches (Channel.normalise_pend _)
  · exact Channel.latch_pendLatches rfl

/-- Recording the response belongs to the micro-step that ends the operation (R240). -/
theorem MicroEffect.complete {i : Instr} (h : MicroEffect i s t) (op : Instr) (r : Option Resp) :
    MicroEffect i s (complete op r t) := by
  rw [complete_eq]
  exact ⟨h.outside, h.mem, h.other, h.own, h.counter⟩

/-- The next micro-step of a position is one effect of its operation, with the response if it is the last (R12). -/
theorem stepFrame_microEffect (f : Frame) (s : State) : MicroEffect f.op s (stepFrame f s).1 := by
  unfold stepFrame
  cases hm : (program f.op)[f.idx]? with
  | none => exact microEffect_complete f.op f.op (some respOk) s
  | some m =>
    have hstep := hasEffect_of_mem_program f.op m (List.mem_of_getElem? hm) f.loc s
    dsimp only
    rcases hml : m f.loc s with ⟨u, l | r⟩ <;> rw [hml] at hstep <;> dsimp only
    · split
      · exact hstep
      · exact hstep.complete f.op (some respOk)
    · exact hstep.complete f.op r

theorem stepContext_pendLatches (done x : Context) (s : State) (c : Chan) :
    (s.chan c).PendLatches ((stepContext done x s).1.chan c) := by
  match x with
  | .idle | .returning => exact .refl _
  | .running f (some g) => exact (stepFrame_microEffect g s).pendLatches c
  | .running f none =>
    have heff := stepFrame_microEffect f s
    rcases hf : stepFrame f s with ⟨u, _ | f'⟩ <;> rw [hf] at heff <;> simpa [stepContext, hf] using heff.pendLatches c

theorem normalStep_pendLatches (s : State) (c : Chan) : (s.chan c).PendLatches ((normalStep s).chan c) := by
  unfold normalStep
  split
  · exact .refl _
  · exact stepContext_pendLatches .idle s.ctxN s c

theorem interruptStep_pendLatches (s : State) (c : Chan) : (s.chan c).PendLatches ((interruptStep s).chan c) := by
  obtain ⟨-, e⟩ | ⟨-, e⟩ | ⟨-, -, e⟩ := interruptStep_cases s <;> rw [e]
  · exact .refl _
  · exact .refl _
  · exact stepContext_pendLatches .returning s.ctxI s c

theorem setRunningContext_chan (x : Context) (s : State) (c : Chan) : (setRunningContext x s).chan c = s.chan c := by
  unfold setRunningContext
  split <;> rfl

/-- A dispatch of another channel leaves this one as it is (R222). -/
theorem dispatchStep_chan_other {d : Chan} (h : c ≠ d) : (dispatchStep d s).chan c = s.chan c := by
  unfold dispatchStep
  split
  · exact State.setChan_chan_other s d c _ h
  · rfl

/-- A dispatch of this channel leaves it without a completion pending, and its line as it is (R222). -/
theorem dispatchStep_chan_same (c : Chan) (s : State) : ((dispatchStep c s).chan c).line = (s.chan c).line ∧
    (((dispatchStep c s).chan c).pend = true → (s.chan c).pend = true) := by
  unfold dispatchStep
  split
  · have hchan : (takeInterrupt c s).chan c = { s.chan c with pend := false } := State.setChan_chan_same s c _
    rw [hchan]
    exact ⟨rfl, nofun⟩
  · exact ⟨rfl, id⟩

/-- Every micro-step of every agent but the dispatch of the channel latches the channel's line (R221). -/
theorem agentStep_pendLatches {x : Input} (hx : x.isMicroStep = true) (hd : x ≠ .dispatch c)
    (h : agentStep x s = .next t) : (s.chan c).PendLatches (t.chan c) := by
  cases x with
  | command q | reset => cases hx
  | accept q =>
    obtain ⟨i, -, rfl⟩ := acceptCommand_next h
    exact .refl _
  | normal => cases h; exact normalStep_pendLatches s c
  | dispatch d =>
    cases h
    rw [dispatchStep_chan_other fun hc => hd (congrArg Input.dispatch hc.symm)]
    exact .refl _
  | interrupt => cases h; exact interruptStep_pendLatches s c
  | mover d ready elem => cases h; exact (moverStep_effect d ready elem s).pendLatches c
  | react q =>
    obtain ⟨f, i, -, -, rfl⟩ := reactStep_next h
    rw [setRunningContext_chan]
    exact .refl _
  | hostRead a =>
    obtain ⟨e, rfl⟩ := hostLoad_next h
    exact .refl _
  | hostWrite a b =>
    obtain ⟨e, rfl⟩ := hostStore_next h
    exact .refl _

/-- What the latch's equation says of its three cases. -/
theorem Channel.PendLatches.cases (h : x.PendLatches y) :
    (x.line = false → y.line = true → y.pend = true) ∧
    (x.pend = false → y.pend = true → x.line = false ∧ y.line = true) ∧ (x.pend = true → y.pend = true) := by
  refine ⟨fun hlow hhigh => ?_, fun hclear hset => ?_, fun hset => ?_⟩
  · rw [h, hlow, hhigh]; exact Bool.or_true _
  · rw [h, hclear] at hset; simpa using hset
  · rw [h, hset, Bool.true_or]

end

/-- Settles O40: the dispatch of the channel clears its latch and leaves its line; every other micro-step latches the edge. -/
theorem pendingFollowsRisingEdges : Obligations.PendingFollowsRisingEdges := by
  intro s t x c hhead hx h
  obtain ⟨rest, hin⟩ := List.head?_eq_some_iff.1 hhead
  rw [step_eq_agentStep hin] at h
  by_cases hd : x = .dispatch c
  · subst hd
    cases h
    obtain ⟨hline, hpend⟩ := dispatchStep_chan_same c (s.popInput rest)
    refine ⟨fun hlow hhigh => ?_, fun hlow hhigh => ?_, fun _ => .inr rfl⟩
    · exact nomatch hlow.symm.trans (hline.symm.trans hhigh)
    · exact nomatch hlow.symm.trans (hpend hhigh)
  · obtain ⟨hrises, honly, hkept⟩ := (agentStep_pendLatches (s := s.popInput rest) hx hd h).cases
    exact ⟨hrises, honly, fun hpend => .inl (hkept hpend)⟩

/-! ### The handler run whole -/

section
variable {s : State} {c : Chan}

theorem handlerIdle_atChannel {ch : Channel} {log : List BusEvent} : handlerIdle c (s.atChannel c ch log) =
    s.atChannel c { ch with fsm := toIdle ch.fsm } log := by
  rw [handlerIdle, State.atChannel_chan, State.atChannel_setChan]

theorem readIdentity_atChannel (hclk : s.clkOk = true) (ch : Channel) (log : List BusEvent) (l : Locals) :
    readIdentity c l (s.atChannel c ch log) =
      (s.atChannel c ch (log ++ [.rd c .psr (ch.psr.setWidth 32)]), .go { l with value := ch.psr.setWidth 32 }) := by
  have hvalue : readValue .psr ((s.atChannel c ch log).chan c) = some (ch.psr.setWidth 32) := by
    rw [State.atChannel_chan]; rfl
  rw [readIdentity, regRead_clocked (s := s.atChannel c ch log) c .psr _ hclk hvalue]
  rfl

/-- A clocked channel after the first three micro-steps of its handler: masked, idle, its identity read back (R226). -/
def identified (c : Chan) (s : State) : State :=
  s.atChannel c { s.chan c with imr := 0, fsm := toIdle (s.chan c).fsm }
    (s.busLog ++ [.wr c .idr intAll, .rd c .psr ((s.chan c).psr.setWidth 32)])

/-- The last three micro-steps of the handler, which tell the receiver (R226). -/
def reportMicros (c : Chan) : List Micro := [checkIdentity, emitDone c, finish respOk]

theorem runMicros_progIrq (hclk : s.clkOk = true) (hset : (s.chan c).settled) :
    runMicros (progIrq c) {} s =
      runMicros (reportMicros c) { value := (s.chan c).psr.setWidth 32 } (identified c s) := by
  have hself : runMicros (progIrq c) {} s = runMicros (progIrq c) {} (s.atChannel c (s.chan c) s.busLog) := by
    rw [State.atChannel_self]
  rw [hself, progIrq, runMicros_act, runMicros_act, regWrite_atChannel hclk, channelWrite_idr_intAll hset,
    handlerIdle_atChannel, runMicros_cons, readIdentity_atChannel hclk, List.append_assoc]
  rfl

section
variable {p : BitVec 8}

theorem runMicros_reportMicros_of_some {k : Word} (hp : validPid s.params p = true) (hk : (s.chan c).cb = some k) :
    runMicros (reportMicros c) { value := p.setWidth 32 } s = (s.logCb ⟨k, p⟩, some respOk) := by
  simp [reportMicros, runMicros, checkIdentity, emitDone, finish, hp, hk]

theorem runMicros_reportMicros_of_none (hp : validPid s.params p = true) (hk : (s.chan c).cb = none) :
    runMicros (reportMicros c) { value := p.setWidth 32 } s = (s, some respOk) := by
  simp [reportMicros, runMicros, checkIdentity, emitDone, finish, hp, hk]

theorem runMicros_reportMicros_of_invalid (hp : validPid s.params p = false) :
    runMicros (reportMicros c) { value := p.setWidth 32 } s = (s, some (respFault .badPeripheralCode)) := by
  simp [reportMicros, runMicros, checkIdentity, hp]

end

end

/-- Settles O35: masking raises no line, and the word read back carries the code of `PSR`. -/
theorem handlerMasksThenReports : Obligations.HandlerMasksThenReports := by
  intro s a c hclk hset ha
  have hident : identified c s = a := by rw [ha, identified, toIdle_eq_ite]; rfl
  have hcb : (a.chan c).cb = (s.chan c).cb := by rw [← hident, identified, State.atChannel_chan]
  have hparams : a.params = s.params := by rw [ha]; rfl
  have hexec : exec (.irq c) s = .next (runOp (.irq c) (progIrq c) s) := rfl
  rw [hexec, runOp, runMicros_progIrq hclk hset, hident]
  refine ⟨fun hp k hk => ?called, fun hp hk => ?dropped, fun hp => ?faults⟩ <;> rw [← hparams] at hp
  case called => rw [runMicros_reportMicros_of_some hp (hcb.trans hk)]; rfl
  case dropped => rw [runMicros_reportMicros_of_none hp (hcb.trans hk)]; rfl
  case faults => rw [runMicros_reportMicros_of_invalid hp]; rfl

/-! ### The handler run by `interrupt` inputs -/

/-- The state with the serializer's `active` at `a`, the interrupt context at `x`, and the inputs `t` to come. -/
def State.serving (s : State) (a : Option Chan) (x : Context) (t : List Input) : State :=
  { s with active := a, ctxI := x, inputs := t }

section
variable (s : State) (a : Option Chan) (x : Context) (t : List Input)

theorem complete_serving (op : Instr) (r : Option Resp) :
    complete op r (s.serving a x t) = (complete op r s).serving a x t := by
  rw [complete_eq, complete_eq]; rfl

theorem State.afterWriteDraw_serving : (s.serving a x t).afterWriteDraw = s.afterWriteDraw.serving a x t := by
  have hclk : (s.serving a x t).clkOk = s.clkOk := rfl
  have hparams : (s.serving a x t).params = s.params := rfl
  rw [State.afterWriteDraw, State.afterWriteDraw, hclk, hparams]
  split
  · rfl
  · split <;> rfl

theorem regWrite_serving (c : Chan) (r : Reg) (v : Word) :
    regWrite c r v (s.serving a x t) = (regWrite c r v s).serving a x t := by
  have hlands : (s.serving a x t).writeLands = s.writeLands := rfl
  rw [regWrite, regWrite, State.afterWriteDraw_serving, hlands]
  split <;> rfl

theorem regRead_serving (c : Chan) (r : Reg) :
    regRead c r (s.serving a x t) = ((regRead c r s).1, (regRead c r s).2.serving a x t) := by
  have hdraws : (s.serving a x t).readDraws c r = s.readDraws c r := rfl
  rw [regRead, regRead, hdraws]
  split <;> rfl

end

/-- The micro-step does the same whichever handler is active, wherever the interrupt context stands and whatever inputs are to
come, and leaves these three as they are. -/
def IgnoresServing (m : Micro) : Prop :=
  ∀ l s a x t, m l (s.serving a x t) = ((m l s).1.serving a x t, (m l s).2)

/-- No micro-step of the handler sees its own position (R226). -/
theorem ignoresServing_progIrq (c : Chan) : ∀ m ∈ progIrq c, IgnoresServing m := by
  rw [← List.forall_iff_forall_mem]
  simp only [progIrq, List.Forall]
  refine ⟨fun l s a x t => ?mask, fun _ _ _ _ _ => rfl, fun l s a x t => ?identity, fun l s a x t => ?check,
    fun l s a x t => ?emit, fun _ _ _ _ _ => rfl⟩
  case mask => rw [act, act, regWrite_serving]
  case identity => rw [readIdentity, readIdentity, regRead_serving]
  case check =>
    have hparams : (s.serving a x t).params = s.params := rfl
    rw [checkIdentity, checkIdentity, hparams]
    split <;> rfl
  case emit =>
    have hchan : (s.serving a x t).chan c = s.chan c := rfl
    rw [emitDone, emitDone, hchan]
    split <;> rfl

/-- With the interrupt context inside an operation, the input `interrupt` makes its next micro-step (R250). -/
theorem step_interrupt_running {s u : State} {c : Chan} {f : Frame} {g : Option Frame} {t : List Input}
    (h : stepFrame f (s.serving (some c) (.running f none) t) = (u.serving (some c) (.running f none) t, g)) :
    step (s.serving (some c) (.running f none) (.interrupt :: t)) =
      .next (u.serving (some c) ((g.map (Context.running · none)).getD .returning) t) := by
  change Host.Outcome.next (interruptStep (s.serving (some c) (.running f none) t)) = _
  have hstep : interruptStep (s.serving (some c) (.running f none) t) =
    { (stepContext .returning (.running f none) (s.serving (some c) (.running f none) t)).1 with
      ctxI := (stepContext .returning (.running f none) (s.serving (some c) (.running f none) t)).2 } := rfl
  rw [hstep, stepContext, h]
  cases g <;> rfl

/-- Without a handler, the input `interrupt` is only taken off the tape (R250; log 15). -/
theorem run_interrupts_idle (s : State) (t : List Input) (n : Nat) :
    Host.Core.run Sys2Proof.core n (s.serving none .idle (List.replicate n .interrupt ++ t)) =
      .next (s.serving none .idle t) := by
  induction n with
  | zero => rfl
  | succ n ih =>
    have hstep : ∀ t, step (s.serving none .idle (.interrupt :: t)) = .next (s.serving none .idle t) := fun _ => rfl
    rw [List.replicate_succ, List.cons_append, run_succ_of_step n (hstep _), ih]

/-- The first `interrupt` after the handler's end is the return, the others find no handler (R225). -/
theorem run_interrupts_returning (s : State) (c : Chan) (t : List Input) (n : Nat) :
    Host.Core.run Sys2Proof.core (n + 1) (s.serving (some c) .returning (List.replicate (n + 1) .interrupt ++ t)) =
      .next (s.serving none .idle t) := by
  have hstep : ∀ t, step (s.serving (some c) .returning (.interrupt :: t)) = .next (s.serving none .idle t) := fun _ => rfl
  rw [List.replicate_succ, List.cons_append, run_succ_of_step n (hstep _), run_interrupts_idle]

/-- From a position with the micro-steps `ms` left, one `interrupt` each and one for the return, the run ends as `runMicros`
does, with the response recorded and no handler active. -/
theorem run_interrupts {op : Instr} (c : Chan) (t : List Input) {ms : List Micro} (hne : ms ≠ []) :
    ∀ k l s, (∀ m ∈ ms, IgnoresServing m) → (program op).drop k = ms →
      Host.Core.run Sys2Proof.core (ms.length + 1)
          (s.serving (some c) (.running ⟨op, k, l⟩ none) (List.replicate (ms.length + 1) .interrupt ++ t)) =
        .next ((complete op (runMicros ms l s).2 (runMicros ms l s).1).serving none .idle t) := by
  induction ms with
  | nil => exact absurd rfl hne
  | cons m ms ih =>
    intro k l s hign hk
    obtain ⟨hm, hms⟩ := List.forall_mem_cons.1 hign
    have hmicro := hm l s (some c) (.running ⟨op, k, l⟩ none) (List.replicate (ms.length + 1) .interrupt ++ t)
    rw [List.length_cons, List.replicate_succ, List.cons_append, runMicros_cons]
    rcases hml : m l s with ⟨u, l' | r⟩ <;> rw [hml] at hmicro
    · have hframe := stepFrame_of_go hk hmicro
      by_cases hlast : ms = []
      · subst hlast
        rw [if_pos rfl, complete_serving] at hframe
        rw [run_succ_of_step _ (step_interrupt_running hframe)]
        exact run_interrupts_returning _ c t 0
      · rw [if_neg hlast] at hframe
        rw [run_succ_of_step _ (step_interrupt_running hframe)]
        exact ih hlast (k + 1) l' u hms (by rw [← List.tail_drop, hk, List.tail_cons])
    · have hframe := stepFrame_of_done hk hmicro
      rw [complete_serving] at hframe
      rw [run_succ_of_step _ (step_interrupt_running hframe)]
      exact run_interrupts_returning _ c t ms.length

theorem State.serving_of_active {s : State} {a : Option Chan} (h : s.active = a) (x : Context) (t : List Input) :
    s.serving a x t = { s with ctxI := x, inputs := t } := by
  subst h; rfl

/-- Settles O39: the dispatch, then the handler as `HandlerMasksThenReports` has it, then the return. -/
theorem dispatchedHandlerRunsToItsReturn : Obligations.DispatchedHandlerRunsToItsReturn := by
  intro s c k t hin hactive hpend hclk hset hp hk
  obtain ⟨u, hu⟩ : ∃ u, u = s.setChan c { s.chan c with pend := false } := ⟨_, rfl⟩
  have hchan : u.chan c = { s.chan c with pend := false } := by rw [hu, State.setChan_chan_same]
  have hsetu : (u.chan c).settled := by rw [hchan]; exact hset
  have hpu : validPid u.params (u.chan c).psr = true := by rw [hchan, hu]; exact hp
  have hku : (u.chan c).cb = some k := by rw [hchan]; exact hk
  obtain ⟨hdispatch, -⟩ := dispatchStartsTheHandler s c _ hin
  obtain ⟨hcalled, -⟩ := handlerMasksThenReports u _ c (hu ▸ hclk) hsetu rfl
  have hrun : runOp (.irq c) (progIrq c) u = _ := Host.Outcome.next.inj (hcalled hpu k hku)
  calc Host.Core.run Sys2Proof.core 8 s
      = Host.Core.run Sys2Proof.core 7
          (u.serving (some c) (.running (Frame.start (.irq c)) none) (List.replicate 7 Input.interrupt ++ t)) := by
        rw [run_succ_of_step 7 (hdispatch hactive hpend), hu]; rfl
    _ = .next ((runOp (.irq c) (progIrq c) u).serving none .idle t) :=
        run_interrupts c t (program_ne_nil (.irq c)) 0 {} u (ignoresServing_progIrq c) rfl
    _ = _ := by
        rw [hrun, State.serving_of_active (by rw [hu]; exact hactive), hchan, hu, State.setChan_setChan]
        rfl

end Sys2Proof.Machine
end

section
/-! PROOF of the statements of 60_exceptions.md: every well-formed instruction has an outcome and the forms of R105 are refused by
name (O6), the guarded operations fault before any change (O26), and a command step is the meaning of what it decodes to (O51).

Which instructions are well formed by a check, and which are whatever their operands, decides O6: the four checked ones are the
four whose meaning tests the same check before it runs anything. For O26 a guard that faults ends `prepare` and `xfer` in the
state they began in (`exec_of_guard_fault`), so only the order of the guards is left. -/

namespace Sys2Proof.Machine

/-! ### Outcomes of the instructions -/

/-- An instruction that fails a check of R105 is refused under the name of that check (R105, R245). -/
theorem exec_of_not_wellFormed {i : Instr} {s : State} (h : i.wellFormed s.params = false) :
    (∃ c v, i = .wrCr c v ∧ exec i s = .refused .contradictoryCr) ∨
    (∃ c v, i = .wrMr c v ∧ exec i s = .refused .reservedMode) ∨
    (∃ c p b r, (i = .prepare c p b r ∨ i = .xfer c p b r) ∧ exec i s = .refused .notAPeripheral) := by
  have hnot : ¬ i.wellFormed s.params = true := Bool.eq_false_iff.1 h
  cases i with
  | wrCr c v => exact .inl ⟨c, v, rfl, if_neg hnot⟩
  | wrMr c v => exact .inr (.inl ⟨c, v, rfl, if_neg hnot⟩)
  | prepare c p b r => exact .inr (.inr ⟨c, p, b, r, .inl rfl, if_neg hnot⟩)
  | xfer c p b r => exact .inr (.inr ⟨c, p, b, r, .inr rfl, if_neg hnot⟩)
  | _ => cases h

/-- Settles O6: a well-formed instruction is its program run whole, which ends in every state. -/
theorem wellFormedInstructionsComplete : Obligations.WellFormedInstructionsComplete :=
  fun _ _ => ⟨fun hwf => ⟨_, exec_of_wellFormed hwf⟩, exec_of_not_wellFormed⟩

/-! ### Guards that fault -/

section
variable {s : State} {c : Chan} {b : Buffer} {r : Word}

/-- The first guard does not look at the slot (R242). -/
theorem prepareGuard_of_uninitialized (hw : (s.chan c).width = none) (l : Locals) :
    prepareGuard c b r l s = (s, .done (some (respFault .notInitialized))) := by
  rw [prepareGuard, hw]

/-- The second guard faults where the first does not (R241). -/
theorem prepareGuard_of_occupied (hw : (s.chan c).width ≠ none) (hslot : (s.chan c).slot ≠ none) (l : Locals) :
    prepareGuard c b r l s = (s, .done (some (respFault .slotOccupied))) := by
  obtain ⟨w, hw⟩ := Option.ne_none_iff_exists'.1 hw
  simp only [prepareGuard, hw, Option.isSome_iff_ne_none.2 hslot, if_true]

end

/-- Settles O26: each fault is the answer of the operation's first check that fails, and no step before it changes the state. -/
theorem guardedOperationsFault : Obligations.GuardedOperationsFault := by
  intro s c p b r
  refine ⟨fun hp hw => ?notInitialized, fun hp hw hslot => ?slotOccupied, fun hen hn => ?counterUnderflow⟩
  case notInitialized =>
    have hguard := prepareGuard_of_uninitialized (b := b) (r := r) hw
    exact ⟨exec_of_guard_fault (.inl rfl) hp hguard, exec_of_guard_fault (.inr rfl) hp hguard⟩
  case slotOccupied =>
    have hguard := prepareGuard_of_occupied (b := b) (r := r) hw hslot
    exact ⟨exec_of_guard_fault (.inl rfl) hp hguard, exec_of_guard_fault (.inr rfl) hp hguard⟩
  case counterUnderflow =>
    rw [exec_of_wellFormed (i := .disable c) rfl, runOp_disable_of_underflow hen hn]
    rfl

/-! ### A command step -/

theorem normalReady_of_idle {s : State} (hactive : s.active = none) (hctx : s.ctxN = .idle) : normalReady s = true := by
  rw [normalReady, hactive, hctx]; rfl

/-- A command that decodes, issued to a normal context that may accept it, is its instruction's meaning (R250). -/
theorem runCommand_of_ready {s : State} {q : Request} {i : Instr} (hready : normalReady s = true)
    (hdec : decode s.params q = .ok i) : runCommand q s = exec i s := by
  rw [runCommand, if_pos hready, hdec]

/-- Settles O51: taking the command off the tape changes neither the normal context nor the parameters it is decoded under. -/
theorem stepRunsDecodedInstruction : Obligations.StepRunsDecodedInstruction := by
  intro s q i t hin hactive hctx hdec
  calc step s
      = runCommand q (s.popInput t) := step_eq_agentStep hin
    _ = exec i (s.popInput t) := runCommand_of_ready (normalReady_of_idle (s := s.popInput t) hactive hctx) hdec

end Sys2Proof.Machine
end

section
/-! PROOF of the statements of 70_reset_and_hazards.md: the state after reset (O54), a stale count (O29) and the engine operations
without a clock (O34).

While a live count stands, a landed write is its update and the pending latch: nothing reloads (`channelWrite_of_live`). So on a
stale count the five writes of `prepare` leave the old count and its address, and the new ones wait (`Channel.queued`), until
`abort` zeroes the live count and `AbortReleasesTheBuffer` loads them. For O34 a register write, landed or not, leaves the engine
side of every channel (`regWrite_sameEngine`), so slot and `fsm` are decided by the micro-steps that write no register. -/

namespace Sys2Proof.Machine

/-! ### Reset -/

/-- Settles O54: every channel is `Channel.reset`, and both contexts are idle. -/
theorem resetMeetsInvariant : Obligations.ResetMeetsInvariant := by
  refine ⟨⟨rfl, iff_of_true rfl rfl, fun c => ?channel⟩, resetOf_counterInv _ _ _ _, rfl⟩
  case channel =>
    rw [State.reset, resetOf_chan]
    exact resetChannel_inv _

/-! ### A stale count -/

section
variable {ch : Channel}

/-- While a count is live there is nothing to reload, so only the latch follows the update (R200, R221). -/
theorem channelWrite_of_live {r : Reg} {v : Word} {new : Channel} (hr : r ≠ .sr ∧ r ≠ .imr ∧ r ≠ .isr)
    (hnew : regUpdate r v ch = new) (htcr : new.tcr ≠ 0) : channelWrite r v ch = ch.latch new := by
  rw [channelWrite_eq r v ch hr, hnew, Channel.normalise_of_settled fun h => absurd h htcr]

/-- A channel with a count still to move, after `prepare`: the new count and its address wait behind the old ones (R295). Whether
a write raised the line, and so what `pend` holds, depends on the mask a harness left. -/
def Channel.queued (ch : Channel) (w : Width) (p : BitVec 8) (b : Buffer) (n : BitVec 16) (pend : Bool) : Channel :=
  { ch with
    mr := (widthCode w).setWidth 4, psr := p, marr := b.addr, tcrr := n, imr := ch.imr ||| 0b010, slot := some b,
    fsm := if ch.fsm = .idle then .configured else ch.fsm, pend := pend }

/-- The five writes of `prepare` together on a stale count, before the slot is filled (R180, R295). -/
theorem channelWrite_prepare_of_live (w : Width) (p : BitVec 8) (b : Buffer) (n : BitVec 16) (htcr : ch.tcr ≠ 0) :
    ∃ pend, channelWrite .ier intTrc (channelWrite .tcrr (n.setWidth 32) (channelWrite .marr b.addr
      (channelWrite .psr (p.setWidth 32) (channelWrite .mr ((widthCode w).setWidth 32) ch)))) =
    { ch.queued w p b n pend with slot := ch.slot, fsm := ch.fsm } := by
  have hmr (x : Channel) : regUpdate .mr ((widthCode w).setWidth 32) x = { x with mr := (widthCode w).setWidth 4 } := by
    simp [regUpdate, mrAdmitted_widthCode]
  have hpsr (x : Channel) : regUpdate .psr (p.setWidth 32) x = { x with psr := p } := by simp [regUpdate]
  have htcrr (x : Channel) : regUpdate .tcrr (n.setWidth 32) x = { x with tcrr := n } := by simp [regUpdate]
  rw [channelWrite_of_live (by decide) (hmr _), channelWrite_of_live (by decide) (hpsr _),
    channelWrite_of_live (r := .marr) (by decide) rfl, channelWrite_of_live (by decide) (htcrr _),
    channelWrite_of_live (r := .ier) (by decide) rfl]
  · exact ⟨_, rfl⟩
  all_goals exact htcr

end

/-- `prepare` past its guards on a stale count (R295). -/
theorem programChannel_of_live {s : State} {c : Chan} (hclk : s.clkOk = true) (p : BitVec 8) (b : Buffer) (w : Width)
    (n : BitVec 16) (htcr : (s.chan c).tcr ≠ 0) :
    ∃ pend log, programChannel c p b w n s = s.atChannel c ((s.chan c).queued w p b n pend) log := by
  obtain ⟨pend, hwrites⟩ := channelWrite_prepare_of_live w p b n htcr
  have hrun := congrArg (programChannel c p b w n) (State.atChannel_self s c)
  simp only [programChannel, regWrite_atChannel hclk, hwrites, fillSlot_atChannel] at hrun
  exact ⟨pend, _, hrun.symm⟩

/-- Settles O29: `prepare` leaves the channel `queued`, which is settled, so `abort` zeroes the live count and reloads. -/
theorem staleCountDefeatsPrepareAndAbort : Obligations.StaleCountDefeatsPrepareAndAbort := by
  intro s c p b r w n hclk hp hw hslot htcr hn
  have hcount : programmedCount w b.blen r = n := hn.symm
  obtain ⟨pend, log, hprog⟩ := programChannel_of_live hclk p b w n htcr
  have hprepare := exec_prepare_of_free (b := b) (r := r) hp hw hslot
  rw [hcount, hprog] at hprepare
  generalize ht : (s.atChannel c ((s.chan c).queued w p b n pend) log).logResp ⟨.prepare c p b r, respOk⟩ = t at hprepare
  have hchan : t.chan c = (s.chan c).queued w p b n pend := by
    rw [← ht, State.logResp_chan, State.atChannel_chan]
  have hclk' : t.clkOk = true := by rw [← ht]; exact hclk
  have hset : (t.chan c).settled := by rw [hchan]; exact fun h => absurd h htcr
  refine ⟨t, hprepare, ?_⟩
  have habort := abortReleasesTheBuffer t c hclk' hset
  rw [hchan] at habort ⊢
  refine ⟨rfl, rfl, rfl, rfl, rfl, rfl, fun hn0 => ⟨_, habort, ?_⟩⟩
  have haborted (ch : Channel) : (t.setChan c ch).chan c = ch := State.setChan_chan_same t c ch
  exact ⟨congrArg Channel.tcr (haborted _), (congrArg Channel.mar (haborted _)).trans (if_neg hn0),
    congrArg Channel.tcrr (haborted _)⟩

/-! ### Slot and `fsm` without a clock -/

@[simp] theorem regWrite_slot (c d : Chan) (r : Reg) (v : Word) (s : State) :
    ((regWrite c r v s).chan d).slot = (s.chan d).slot := by
  obtain ⟨-, -, -, hslot, -⟩ := regWrite_sameEngine c d r v s
  exact hslot

@[simp] theorem regWrite_fsm (c d : Chan) (r : Reg) (v : Word) (s : State) :
    ((regWrite c r v s).chan d).fsm = (s.chan d).fsm := by
  obtain ⟨-, -, -, -, hfsm⟩ := regWrite_sameEngine c d r v s
  exact hfsm

theorem regRead_chan (c d : Chan) (r : Reg) (s : State) : (regRead c r s).2.chan d = s.chan d :=
  congrArg (fun chans : Vector Channel 16 => chans[d]) (regRead_chans c r s)

section
variable (s : State) (c : Chan)

theorem startChannel_slot : ((startChannel c s).chan c).slot = (s.chan c).slot := by
  simp [startChannel, setRunning]

theorem startChannel_fsm : ((startChannel c s).chan c).fsm =
    if (s.chan c).fsm = .configured then .running else (s.chan c).fsm := by
  simp [startChannel, setRunning]

theorem programChannel_slot (p : BitVec 8) (b : Buffer) (w : Width) (n : BitVec 16) :
    ((programChannel c p b w n s).chan c).slot = some b := by
  simp [programChannel, fillSlot]

theorem programChannel_fsm (p : BitVec 8) (b : Buffer) (w : Width) (n : BitVec 16) :
    ((programChannel c p b w n s).chan c).fsm = if (s.chan c).fsm = .idle then .configured else (s.chan c).fsm := by
  simp [programChannel, fillSlot]

/-- `abort` answers the slot as it stood before its two writes (R185). -/
theorem exec_abort : exec (.abort c) s =
    .next ((releaseSlot c {} (regWrite c .tcr 0 (regWrite c .idr intAll s))).1.logResp
      ⟨.abort c, respBuffer (s.chan c).slot⟩) := by
  have hslot : ((regWrite c .tcr 0 (regWrite c .idr intAll s)).chan c).slot = (s.chan c).slot := by simp
  rw [← hslot]
  rfl

theorem exec_count : exec (.count c) s = .next ((regRead c .tcr s).2.logResp
    ⟨.count c, respValue (((regRead c .tcr s).1.setWidth 16).setWidth 32)⟩) := rfl

/-- The report changes no channel, however it ends (R226). -/
theorem runMicros_reportMicros_chan (l : Locals) (d : Chan) :
    (runMicros (reportMicros c) l s).1.chan d = s.chan d := by
  rw [reportMicros, runMicros_cons, checkIdentity]
  by_cases hp : validPid s.params (l.value.setWidth 8) = true
  case pos => cases hk : (s.chan c).cb <;> simp [runMicros, emitDone, finish, hp, hk]
  case neg => simp [hp]

/-- What `irq` leaves of its channel is what its first two micro-steps leave (R226). -/
theorem exec_irq_chan : ∃ t, exec (.irq c) s = .next t ∧
    t.chan c = (handlerIdle c (regWrite c .idr intAll s)).chan c := by
  refine ⟨runOp (.irq c) (progIrq c) s, rfl, ?_⟩
  calc (runOp (.irq c) (progIrq c) s).chan c
      = (runMicros (progIrq c) {} s).1.chan c := by rw [runOp_eq]; rfl
    _ = (regRead c .psr (handlerIdle c (regWrite c .idr intAll s))).2.chan c := runMicros_reportMicros_chan _ c _ c
    _ = (handlerIdle c (regWrite c .idr intAll s)).chan c := regRead_chan c c .psr _

end

/-- Settles O34, operation by operation: whether a write lands, and what a read draws, does not reach slot and `fsm`. -/
theorem engineEffectsNeedNoClock : Obligations.EngineEffectsNeedNoClock := by
  intro s c
  refine ⟨?start, ?abort, ?count, ?irq, fun p b r hp hw hslot => ?prepare, fun p b r hp hw hslot => ?xfer⟩
  case start => exact ⟨_, exec_start c s, startChannel_slot s c, startChannel_fsm s c⟩
  case abort =>
    refine ⟨_, exec_abort s c, ?_, ?_, ?_⟩
    · simp [releaseSlot]
    · simp [releaseSlot, toIdle_eq_ite]
    · simp only [releaseSlot, State.logResp_respLog, State.setChan_respLog, regWrite_respLog]
      cases (s.chan c).slot <;> rfl
  case count =>
    refine ⟨_, ((regRead c .tcr s).1.setWidth 16).toNat, exec_count s c, regRead_chans c .tcr s, BitVec.isLt _, ?_⟩
    obtain ⟨d, hread⟩ := regRead_eq c .tcr s
    rw [State.logResp_respLog, BitVec.ofNat_toNat, hread]
    rfl
  case irq =>
    obtain ⟨t, hexec, hchan⟩ := exec_irq_chan s c
    refine ⟨t, hexec, ?_, ?_⟩ <;> rw [hchan]
    · simp [handlerIdle]
    · simp [handlerIdle, toIdle_eq_ite]
  case prepare =>
    obtain ⟨w, hw⟩ := Option.ne_none_iff_exists'.1 hw
    refine ⟨_, exec_prepare_of_free hp hw hslot, programChannel_slot s c p b w _, programChannel_fsm s c p b w _, ?_⟩
    rw [State.logResp_respLog, programChannel_respLog]
    rfl
  case xfer =>
    obtain ⟨w, hw⟩ := Option.ne_none_iff_exists'.1 hw
    refine ⟨_, exec_xfer_of_free hp hw hslot, ?_, ?_, ?_⟩
    · rw [State.logResp_chan, startChannel_slot, programChannel_slot]
    · rw [State.logResp_chan, startChannel_fsm, programChannel_fsm]
      cases (s.chan c).fsm <;> rfl
    · rw [State.logResp_respLog, startChannel_respLog, programChannel_respLog]
      rfl

end Sys2Proof.Machine
end
